-- ==== Sys2Proof/Word.lean ====
section
/-! DEFINITION. The two word types of the hardware (00_scope R12): unsigned bytes and 16-bit values. -/

namespace Sys2Proof

/-- `u8`: a register or memory value (R12). -/
abbrev Byte := BitVec 8

/-- `u16`: an address or a pointer (R12). -/
abbrev Word := BitVec 16

end Sys2Proof
end

