-- ==== Sys2Proof/Syntax.lean ====
section
/-! DEFINITION. The instructions: one constructor for each of the 161 rows of spec/opcode_table.json, in the table's order.
A display-list instruction carries its option bits and operands (30_encoding R100 to R104).
A register access carries the bus address, which keeps its mirror bits (30_encoding R108), and a write its value. -/

namespace Sys2Proof

/-- The two agents an instruction's bytes come from: ANTIC's display-list fetch (30_encoding R103) and the CPU bus
(30_encoding R108). -/
inductive Source where
  | displayList
  | bus
  deriving DecidableEq, Repr

/-- The instruction set. A Bool option is the instruction-byte bit of its name (30_encoding R100): `dli` bit 7,
`vscrol` bit 5, `hscrol` bit 4; `lms` is bit 6 with the operand address it brings. -/
inductive Instr where
  /-- `BLANK`: bits 6:4 hold the number of blank lines less one (R172). -/
  | blank (dli : Bool) (count : BitVec 3)
  /-- `JMP`: bits 5:4 are ignored (R173). -/
  | jmp (dli : Bool) (ignored : BitVec 2) (target : Word)
  /-- `JVB`: bits 5:4 are ignored (R174). -/
  | jvb (dli : Bool) (ignored : BitVec 2) (target : Word)
  /-- `MODE2` (R190). -/
  | mode2 (dli : Bool) (lms : Option Word) (vscrol hscrol : Bool)
  /-- `MODE3` (R191). -/
  | mode3 (dli : Bool) (lms : Option Word) (vscrol hscrol : Bool)
  /-- `MODE4` (R192). -/
  | mode4 (dli : Bool) (lms : Option Word) (vscrol hscrol : Bool)
  /-- `MODE5` (R193). -/
  | mode5 (dli : Bool) (lms : Option Word) (vscrol hscrol : Bool)
  /-- `MODE6` (R194). -/
  | mode6 (dli : Bool) (lms : Option Word) (vscrol hscrol : Bool)
  /-- `MODE7` (R195). -/
  | mode7 (dli : Bool) (lms : Option Word) (vscrol hscrol : Bool)
  /-- `MODE8` (R196). -/
  | mode8 (dli : Bool) (lms : Option Word) (vscrol hscrol : Bool)
  /-- `MODE9` (R197). -/
  | mode9 (dli : Bool) (lms : Option Word) (vscrol hscrol : Bool)
  /-- `MODEA` (R198). -/
  | modeA (dli : Bool) (lms : Option Word) (vscrol hscrol : Bool)
  /-- `MODEB` (R199). -/
  | modeB (dli : Bool) (lms : Option Word) (vscrol hscrol : Bool)
  /-- `MODEC` (R200). -/
  | modeC (dli : Bool) (lms : Option Word) (vscrol hscrol : Bool)
  /-- `MODED` (R201). -/
  | modeD (dli : Bool) (lms : Option Word) (vscrol hscrol : Bool)
  /-- `MODEE` (R202). -/
  | modeE (dli : Bool) (lms : Option Word) (vscrol hscrol : Bool)
  /-- `MODEF` (R203). -/
  | modeF (dli : Bool) (lms : Option Word) (vscrol hscrol : Bool)
  /-- `W_DMACTL` (R210). -/
  | wDmactl (addr : Word) (v : Byte)
  /-- `W_CHACTL` (R211). -/
  | wChactl (addr : Word) (v : Byte)
  /-- `W_DLISTL` (R212). -/
  | wDlistl (addr : Word) (v : Byte)
  /-- `W_DLISTH` (R213). -/
  | wDlisth (addr : Word) (v : Byte)
  /-- `W_HSCROL` (R214). -/
  | wHscrol (addr : Word) (v : Byte)
  /-- `W_VSCROL` (R215). -/
  | wVscrol (addr : Word) (v : Byte)
  /-- `W_ANTIC_UNUSED6` (R226). -/
  | wAnticUnused6 (addr : Word) (v : Byte)
  /-- `W_PMBASE` (R216). -/
  | wPmbase (addr : Word) (v : Byte)
  /-- `W_ANTIC_UNUSED8` (R226). -/
  | wAnticUnused8 (addr : Word) (v : Byte)
  /-- `W_CHBASE` (R217). -/
  | wChbase (addr : Word) (v : Byte)
  /-- `W_WSYNC` (R218). -/
  | wWsync (addr : Word) (v : Byte)
  /-- `W_ANTIC_UNUSEDB` (R226). -/
  | wAnticUnusedb (addr : Word) (v : Byte)
  /-- `W_ANTIC_UNUSEDC` (R226). -/
  | wAnticUnusedc (addr : Word) (v : Byte)
  /-- `W_ANTIC_UNUSEDD` (R226). -/
  | wAnticUnusedd (addr : Word) (v : Byte)
  /-- `W_NMIEN` (R219). -/
  | wNmien (addr : Word) (v : Byte)
  /-- `W_NMIRES` (R220). -/
  | wNmires (addr : Word) (v : Byte)
  /-- `R_ANTIC0_FF` (R222). -/
  | rAntic0Ff (addr : Word)
  /-- `R_ANTIC1_FF` (R222). -/
  | rAntic1Ff (addr : Word)
  /-- `R_ANTIC2_FF` (R222). -/
  | rAntic2Ff (addr : Word)
  /-- `R_ANTIC3_FF` (R222). -/
  | rAntic3Ff (addr : Word)
  /-- `R_ANTIC4_FF` (R222). -/
  | rAntic4Ff (addr : Word)
  /-- `R_ANTIC5_FF` (R222). -/
  | rAntic5Ff (addr : Word)
  /-- `R_ANTIC6_FF` (R222). -/
  | rAntic6Ff (addr : Word)
  /-- `R_ANTIC7_FF` (R222). -/
  | rAntic7Ff (addr : Word)
  /-- `R_ANTIC8_FF` (R222). -/
  | rAntic8Ff (addr : Word)
  /-- `R_ANTIC9_FF` (R222). -/
  | rAntic9Ff (addr : Word)
  /-- `R_ANTICA_FF` (R222). -/
  | rAnticaFf (addr : Word)
  /-- `R_VCOUNT` (R223). -/
  | rVcount (addr : Word)
  /-- `R_PENH` (R224). -/
  | rPenh (addr : Word)
  /-- `R_PENV` (R225). -/
  | rPenv (addr : Word)
  /-- `R_ANTICE_FF` (R222). -/
  | rAnticeFf (addr : Word)
  /-- `R_NMIST` (R221). -/
  | rNmist (addr : Word)
  /-- `W_HPOSP0` (R241). -/
  | wHposp0 (addr : Word) (v : Byte)
  /-- `W_HPOSP1` (R242). -/
  | wHposp1 (addr : Word) (v : Byte)
  /-- `W_HPOSP2` (R243). -/
  | wHposp2 (addr : Word) (v : Byte)
  /-- `W_HPOSP3` (R244). -/
  | wHposp3 (addr : Word) (v : Byte)
  /-- `W_HPOSM0` (R245). -/
  | wHposm0 (addr : Word) (v : Byte)
  /-- `W_HPOSM1` (R246). -/
  | wHposm1 (addr : Word) (v : Byte)
  /-- `W_HPOSM2` (R247). -/
  | wHposm2 (addr : Word) (v : Byte)
  /-- `W_HPOSM3` (R248). -/
  | wHposm3 (addr : Word) (v : Byte)
  /-- `W_SIZEP0` (R249). -/
  | wSizep0 (addr : Word) (v : Byte)
  /-- `W_SIZEP1` (R250). -/
  | wSizep1 (addr : Word) (v : Byte)
  /-- `W_SIZEP2` (R251). -/
  | wSizep2 (addr : Word) (v : Byte)
  /-- `W_SIZEP3` (R252). -/
  | wSizep3 (addr : Word) (v : Byte)
  /-- `W_SIZEM` (R253). -/
  | wSizem (addr : Word) (v : Byte)
  /-- `W_GRAFP0` (R254). -/
  | wGrafp0 (addr : Word) (v : Byte)
  /-- `W_GRAFP1` (R255). -/
  | wGrafp1 (addr : Word) (v : Byte)
  /-- `W_GRAFP2` (R256). -/
  | wGrafp2 (addr : Word) (v : Byte)
  /-- `W_GRAFP3` (R257). -/
  | wGrafp3 (addr : Word) (v : Byte)
  /-- `W_GRAFM` (R258). -/
  | wGrafm (addr : Word) (v : Byte)
  /-- `W_COLPM0` (R259). -/
  | wColpm0 (addr : Word) (v : Byte)
  /-- `W_COLPM1` (R260). -/
  | wColpm1 (addr : Word) (v : Byte)
  /-- `W_COLPM2` (R261). -/
  | wColpm2 (addr : Word) (v : Byte)
  /-- `W_COLPM3` (R262). -/
  | wColpm3 (addr : Word) (v : Byte)
  /-- `W_COLPF0` (R263). -/
  | wColpf0 (addr : Word) (v : Byte)
  /-- `W_COLPF1` (R264). -/
  | wColpf1 (addr : Word) (v : Byte)
  /-- `W_COLPF2` (R265). -/
  | wColpf2 (addr : Word) (v : Byte)
  /-- `W_COLPF3` (R266). -/
  | wColpf3 (addr : Word) (v : Byte)
  /-- `W_COLBK` (R267). -/
  | wColbk (addr : Word) (v : Byte)
  /-- `W_PRIOR` (R268). -/
  | wPrior (addr : Word) (v : Byte)
  /-- `W_VDELAY` (R269). -/
  | wVdelay (addr : Word) (v : Byte)
  /-- `W_GRACTL` (R270). -/
  | wGractl (addr : Word) (v : Byte)
  /-- `W_HITCLR` (R271). -/
  | wHitclr (addr : Word) (v : Byte)
  /-- `W_CONSOL_W` (R272). -/
  | wConsolW (addr : Word) (v : Byte)
  /-- `R_M0PF` (R273). -/
  | rM0pf (addr : Word)
  /-- `R_M1PF` (R274). -/
  | rM1pf (addr : Word)
  /-- `R_M2PF` (R275). -/
  | rM2pf (addr : Word)
  /-- `R_M3PF` (R276). -/
  | rM3pf (addr : Word)
  /-- `R_P0PF` (R277). -/
  | rP0pf (addr : Word)
  /-- `R_P1PF` (R278). -/
  | rP1pf (addr : Word)
  /-- `R_P2PF` (R279). -/
  | rP2pf (addr : Word)
  /-- `R_P3PF` (R280). -/
  | rP3pf (addr : Word)
  /-- `R_M0PL` (R281). -/
  | rM0pl (addr : Word)
  /-- `R_M1PL` (R282). -/
  | rM1pl (addr : Word)
  /-- `R_M2PL` (R283). -/
  | rM2pl (addr : Word)
  /-- `R_M3PL` (R284). -/
  | rM3pl (addr : Word)
  /-- `R_P0PL` (R285). -/
  | rP0pl (addr : Word)
  /-- `R_P1PL` (R286). -/
  | rP1pl (addr : Word)
  /-- `R_P2PL` (R287). -/
  | rP2pl (addr : Word)
  /-- `R_P3PL` (R288). -/
  | rP3pl (addr : Word)
  /-- `R_TRIG0` (R289). -/
  | rTrig0 (addr : Word)
  /-- `R_TRIG1` (R290). -/
  | rTrig1 (addr : Word)
  /-- `R_TRIG2` (R291). -/
  | rTrig2 (addr : Word)
  /-- `R_TRIG3` (R292). -/
  | rTrig3 (addr : Word)
  /-- `R_PAL` (R293). -/
  | rPal (addr : Word)
  /-- `R_GTIA15_FF` (R294). -/
  | rGtia15Ff (addr : Word)
  /-- `R_GTIA16_FF` (R294). -/
  | rGtia16Ff (addr : Word)
  /-- `R_GTIA17_FF` (R294). -/
  | rGtia17Ff (addr : Word)
  /-- `R_GTIA18_FF` (R294). -/
  | rGtia18Ff (addr : Word)
  /-- `R_GTIA19_FF` (R294). -/
  | rGtia19Ff (addr : Word)
  /-- `R_GTIA1A_FF` (R294). -/
  | rGtia1aFf (addr : Word)
  /-- `R_GTIA1B_FF` (R294). -/
  | rGtia1bFf (addr : Word)
  /-- `R_GTIA1C_FF` (R294). -/
  | rGtia1cFf (addr : Word)
  /-- `R_GTIA1D_FF` (R294). -/
  | rGtia1dFf (addr : Word)
  /-- `R_GTIA1E_FF` (R294). -/
  | rGtia1eFf (addr : Word)
  /-- `R_CONSOL` (R295). -/
  | rConsol (addr : Word)
  /-- `W_AUDF1` (R301). -/
  | wAudf1 (addr : Word) (v : Byte)
  /-- `W_AUDC1` (R302). -/
  | wAudc1 (addr : Word) (v : Byte)
  /-- `W_AUDF2` (R303). -/
  | wAudf2 (addr : Word) (v : Byte)
  /-- `W_AUDC2` (R304). -/
  | wAudc2 (addr : Word) (v : Byte)
  /-- `W_AUDF3` (R305). -/
  | wAudf3 (addr : Word) (v : Byte)
  /-- `W_AUDC3` (R306). -/
  | wAudc3 (addr : Word) (v : Byte)
  /-- `W_AUDF4` (R307). -/
  | wAudf4 (addr : Word) (v : Byte)
  /-- `W_AUDC4` (R308). -/
  | wAudc4 (addr : Word) (v : Byte)
  /-- `W_AUDCTL` (R309). -/
  | wAudctl (addr : Word) (v : Byte)
  /-- `W_STIMER` (R310). -/
  | wStimer (addr : Word) (v : Byte)
  /-- `W_SKRES` (R311). -/
  | wSkres (addr : Word) (v : Byte)
  /-- `W_POTGO` (R312). -/
  | wPotgo (addr : Word) (v : Byte)
  /-- `W_POKEY_UNUSEDC` (R316). -/
  | wPokeyUnusedc (addr : Word) (v : Byte)
  /-- `W_SEROUT` (R313). -/
  | wSerout (addr : Word) (v : Byte)
  /-- `W_IRQEN` (R314). -/
  | wIrqen (addr : Word) (v : Byte)
  /-- `W_SKCTL` (R315). -/
  | wSkctl (addr : Word) (v : Byte)
  /-- `R_POT0` (R317). -/
  | rPot0 (addr : Word)
  /-- `R_POT1` (R318). -/
  | rPot1 (addr : Word)
  /-- `R_POT2` (R319). -/
  | rPot2 (addr : Word)
  /-- `R_POT3` (R320). -/
  | rPot3 (addr : Word)
  /-- `R_POT4` (R321). -/
  | rPot4 (addr : Word)
  /-- `R_POT5` (R322). -/
  | rPot5 (addr : Word)
  /-- `R_POT6` (R323). -/
  | rPot6 (addr : Word)
  /-- `R_POT7` (R324). -/
  | rPot7 (addr : Word)
  /-- `R_ALLPOT` (R325). -/
  | rAllpot (addr : Word)
  /-- `R_KBCODE` (R326). -/
  | rKbcode (addr : Word)
  /-- `R_RANDOM` (R327). -/
  | rRandom (addr : Word)
  /-- `R_POKEYB_FF` (R328). -/
  | rPokeybFf (addr : Word)
  /-- `R_POKEYC_FF` (R328). -/
  | rPokeycFf (addr : Word)
  /-- `R_SERIN` (R329). -/
  | rSerin (addr : Word)
  /-- `R_IRQST` (R330). -/
  | rIrqst (addr : Word)
  /-- `R_SKSTAT` (R331). -/
  | rSkstat (addr : Word)
  /-- `W_PORTA` (R370). -/
  | wPorta (addr : Word) (v : Byte)
  /-- `R_PORTA` (R374). -/
  | rPorta (addr : Word)
  /-- `W_PORTB` (R371). -/
  | wPortb (addr : Word) (v : Byte)
  /-- `R_PORTB` (R375). -/
  | rPortb (addr : Word)
  /-- `W_PACTL` (R372). -/
  | wPactl (addr : Word) (v : Byte)
  /-- `R_PACTL` (R376). -/
  | rPactl (addr : Word)
  /-- `W_PBCTL` (R373). -/
  | wPbctl (addr : Word) (v : Byte)
  /-- `R_PBCTL` (R377). -/
  | rPbctl (addr : Word)
  /-- `W_UNMAPPED_D1` (R76). -/
  | wUnmappedD1 (addr : Word) (v : Byte)
  /-- `R_UNMAPPED_D1` (R75). -/
  | rUnmappedD1 (addr : Word)
  /-- `W_UNMAPPED_D6` (R76). -/
  | wUnmappedD6 (addr : Word) (v : Byte)
  /-- `R_UNMAPPED_D6` (R75). -/
  | rUnmappedD6 (addr : Word)
  /-- `W_UNMAPPED_D7` (R76). -/
  | wUnmappedD7 (addr : Word) (v : Byte)
  /-- `R_UNMAPPED_D7` (R75). -/
  | rUnmappedD7 (addr : Word)
  /-- `W_CARTCTL` (R76). -/
  | wCartctl (addr : Word) (v : Byte)
  /-- `R_CARTCTL` (R75). -/
  | rCartctl (addr : Word)
  deriving DecidableEq, Repr

end Sys2Proof
end

