-- ==== Sys2Proof/WellFormed.lean ====
section
/-! DEFINITION. Which terms of `Instr` are instructions: a register access must carry an address of its own row of
spec/opcode_table.json (30_encoding R108). A display-list instruction is well formed by its types (30_encoding R105). -/

namespace Sys2Proof

/-- The address of a register access with the match and the mask of its row of spec/opcode_table.json. -/
def Instr.busRow : Instr → Option (Word × Word × Word)
  | .blank _ _ => none
  | .jmp _ _ _ => none
  | .jvb _ _ _ => none
  | .mode2 _ _ _ _ => none
  | .mode3 _ _ _ _ => none
  | .mode4 _ _ _ _ => none
  | .mode5 _ _ _ _ => none
  | .mode6 _ _ _ _ => none
  | .mode7 _ _ _ _ => none
  | .mode8 _ _ _ _ => none
  | .mode9 _ _ _ _ => none
  | .modeA _ _ _ _ => none
  | .modeB _ _ _ _ => none
  | .modeC _ _ _ _ => none
  | .modeD _ _ _ _ => none
  | .modeE _ _ _ _ => none
  | .modeF _ _ _ _ => none
  | .wDmactl a _ => some (a, 0xd400, 0xff0f)
  | .wChactl a _ => some (a, 0xd401, 0xff0f)
  | .wDlistl a _ => some (a, 0xd402, 0xff0f)
  | .wDlisth a _ => some (a, 0xd403, 0xff0f)
  | .wHscrol a _ => some (a, 0xd404, 0xff0f)
  | .wVscrol a _ => some (a, 0xd405, 0xff0f)
  | .wAnticUnused6 a _ => some (a, 0xd406, 0xff0f)
  | .wPmbase a _ => some (a, 0xd407, 0xff0f)
  | .wAnticUnused8 a _ => some (a, 0xd408, 0xff0f)
  | .wChbase a _ => some (a, 0xd409, 0xff0f)
  | .wWsync a _ => some (a, 0xd40a, 0xff0f)
  | .wAnticUnusedb a _ => some (a, 0xd40b, 0xff0f)
  | .wAnticUnusedc a _ => some (a, 0xd40c, 0xff0f)
  | .wAnticUnusedd a _ => some (a, 0xd40d, 0xff0f)
  | .wNmien a _ => some (a, 0xd40e, 0xff0f)
  | .wNmires a _ => some (a, 0xd40f, 0xff0f)
  | .rAntic0Ff a => some (a, 0xd400, 0xff0f)
  | .rAntic1Ff a => some (a, 0xd401, 0xff0f)
  | .rAntic2Ff a => some (a, 0xd402, 0xff0f)
  | .rAntic3Ff a => some (a, 0xd403, 0xff0f)
  | .rAntic4Ff a => some (a, 0xd404, 0xff0f)
  | .rAntic5Ff a => some (a, 0xd405, 0xff0f)
  | .rAntic6Ff a => some (a, 0xd406, 0xff0f)
  | .rAntic7Ff a => some (a, 0xd407, 0xff0f)
  | .rAntic8Ff a => some (a, 0xd408, 0xff0f)
  | .rAntic9Ff a => some (a, 0xd409, 0xff0f)
  | .rAnticaFf a => some (a, 0xd40a, 0xff0f)
  | .rVcount a => some (a, 0xd40b, 0xff0f)
  | .rPenh a => some (a, 0xd40c, 0xff0f)
  | .rPenv a => some (a, 0xd40d, 0xff0f)
  | .rAnticeFf a => some (a, 0xd40e, 0xff0f)
  | .rNmist a => some (a, 0xd40f, 0xff0f)
  | .wHposp0 a _ => some (a, 0xd000, 0xff1f)
  | .wHposp1 a _ => some (a, 0xd001, 0xff1f)
  | .wHposp2 a _ => some (a, 0xd002, 0xff1f)
  | .wHposp3 a _ => some (a, 0xd003, 0xff1f)
  | .wHposm0 a _ => some (a, 0xd004, 0xff1f)
  | .wHposm1 a _ => some (a, 0xd005, 0xff1f)
  | .wHposm2 a _ => some (a, 0xd006, 0xff1f)
  | .wHposm3 a _ => some (a, 0xd007, 0xff1f)
  | .wSizep0 a _ => some (a, 0xd008, 0xff1f)
  | .wSizep1 a _ => some (a, 0xd009, 0xff1f)
  | .wSizep2 a _ => some (a, 0xd00a, 0xff1f)
  | .wSizep3 a _ => some (a, 0xd00b, 0xff1f)
  | .wSizem a _ => some (a, 0xd00c, 0xff1f)
  | .wGrafp0 a _ => some (a, 0xd00d, 0xff1f)
  | .wGrafp1 a _ => some (a, 0xd00e, 0xff1f)
  | .wGrafp2 a _ => some (a, 0xd00f, 0xff1f)
  | .wGrafp3 a _ => some (a, 0xd010, 0xff1f)
  | .wGrafm a _ => some (a, 0xd011, 0xff1f)
  | .wColpm0 a _ => some (a, 0xd012, 0xff1f)
  | .wColpm1 a _ => some (a, 0xd013, 0xff1f)
  | .wColpm2 a _ => some (a, 0xd014, 0xff1f)
  | .wColpm3 a _ => some (a, 0xd015, 0xff1f)
  | .wColpf0 a _ => some (a, 0xd016, 0xff1f)
  | .wColpf1 a _ => some (a, 0xd017, 0xff1f)
  | .wColpf2 a _ => some (a, 0xd018, 0xff1f)
  | .wColpf3 a _ => some (a, 0xd019, 0xff1f)
  | .wColbk a _ => some (a, 0xd01a, 0xff1f)
  | .wPrior a _ => some (a, 0xd01b, 0xff1f)
  | .wVdelay a _ => some (a, 0xd01c, 0xff1f)
  | .wGractl a _ => some (a, 0xd01d, 0xff1f)
  | .wHitclr a _ => some (a, 0xd01e, 0xff1f)
  | .wConsolW a _ => some (a, 0xd01f, 0xff1f)
  | .rM0pf a => some (a, 0xd000, 0xff1f)
  | .rM1pf a => some (a, 0xd001, 0xff1f)
  | .rM2pf a => some (a, 0xd002, 0xff1f)
  | .rM3pf a => some (a, 0xd003, 0xff1f)
  | .rP0pf a => some (a, 0xd004, 0xff1f)
  | .rP1pf a => some (a, 0xd005, 0xff1f)
  | .rP2pf a => some (a, 0xd006, 0xff1f)
  | .rP3pf a => some (a, 0xd007, 0xff1f)
  | .rM0pl a => some (a, 0xd008, 0xff1f)
  | .rM1pl a => some (a, 0xd009, 0xff1f)
  | .rM2pl a => some (a, 0xd00a, 0xff1f)
  | .rM3pl a => some (a, 0xd00b, 0xff1f)
  | .rP0pl a => some (a, 0xd00c, 0xff1f)
  | .rP1pl a => some (a, 0xd00d, 0xff1f)
  | .rP2pl a => some (a, 0xd00e, 0xff1f)
  | .rP3pl a => some (a, 0xd00f, 0xff1f)
  | .rTrig0 a => some (a, 0xd010, 0xff1f)
  | .rTrig1 a => some (a, 0xd011, 0xff1f)
  | .rTrig2 a => some (a, 0xd012, 0xff1f)
  | .rTrig3 a => some (a, 0xd013, 0xff1f)
  | .rPal a => some (a, 0xd014, 0xff1f)
  | .rGtia15Ff a => some (a, 0xd015, 0xff1f)
  | .rGtia16Ff a => some (a, 0xd016, 0xff1f)
  | .rGtia17Ff a => some (a, 0xd017, 0xff1f)
  | .rGtia18Ff a => some (a, 0xd018, 0xff1f)
  | .rGtia19Ff a => some (a, 0xd019, 0xff1f)
  | .rGtia1aFf a => some (a, 0xd01a, 0xff1f)
  | .rGtia1bFf a => some (a, 0xd01b, 0xff1f)
  | .rGtia1cFf a => some (a, 0xd01c, 0xff1f)
  | .rGtia1dFf a => some (a, 0xd01d, 0xff1f)
  | .rGtia1eFf a => some (a, 0xd01e, 0xff1f)
  | .rConsol a => some (a, 0xd01f, 0xff1f)
  | .wAudf1 a _ => some (a, 0xd200, 0xff0f)
  | .wAudc1 a _ => some (a, 0xd201, 0xff0f)
  | .wAudf2 a _ => some (a, 0xd202, 0xff0f)
  | .wAudc2 a _ => some (a, 0xd203, 0xff0f)
  | .wAudf3 a _ => some (a, 0xd204, 0xff0f)
  | .wAudc3 a _ => some (a, 0xd205, 0xff0f)
  | .wAudf4 a _ => some (a, 0xd206, 0xff0f)
  | .wAudc4 a _ => some (a, 0xd207, 0xff0f)
  | .wAudctl a _ => some (a, 0xd208, 0xff0f)
  | .wStimer a _ => some (a, 0xd209, 0xff0f)
  | .wSkres a _ => some (a, 0xd20a, 0xff0f)
  | .wPotgo a _ => some (a, 0xd20b, 0xff0f)
  | .wPokeyUnusedc a _ => some (a, 0xd20c, 0xff0f)
  | .wSerout a _ => some (a, 0xd20d, 0xff0f)
  | .wIrqen a _ => some (a, 0xd20e, 0xff0f)
  | .wSkctl a _ => some (a, 0xd20f, 0xff0f)
  | .rPot0 a => some (a, 0xd200, 0xff0f)
  | .rPot1 a => some (a, 0xd201, 0xff0f)
  | .rPot2 a => some (a, 0xd202, 0xff0f)
  | .rPot3 a => some (a, 0xd203, 0xff0f)
  | .rPot4 a => some (a, 0xd204, 0xff0f)
  | .rPot5 a => some (a, 0xd205, 0xff0f)
  | .rPot6 a => some (a, 0xd206, 0xff0f)
  | .rPot7 a => some (a, 0xd207, 0xff0f)
  | .rAllpot a => some (a, 0xd208, 0xff0f)
  | .rKbcode a => some (a, 0xd209, 0xff0f)
  | .rRandom a => some (a, 0xd20a, 0xff0f)
  | .rPokeybFf a => some (a, 0xd20b, 0xff0f)
  | .rPokeycFf a => some (a, 0xd20c, 0xff0f)
  | .rSerin a => some (a, 0xd20d, 0xff0f)
  | .rIrqst a => some (a, 0xd20e, 0xff0f)
  | .rSkstat a => some (a, 0xd20f, 0xff0f)
  | .wPorta a _ => some (a, 0xd300, 0xff03)
  | .rPorta a => some (a, 0xd300, 0xff03)
  | .wPortb a _ => some (a, 0xd301, 0xff03)
  | .rPortb a => some (a, 0xd301, 0xff03)
  | .wPactl a _ => some (a, 0xd302, 0xff03)
  | .rPactl a => some (a, 0xd302, 0xff03)
  | .wPbctl a _ => some (a, 0xd303, 0xff03)
  | .rPbctl a => some (a, 0xd303, 0xff03)
  | .wUnmappedD1 a _ => some (a, 0xd100, 0xff00)
  | .rUnmappedD1 a => some (a, 0xd100, 0xff00)
  | .wUnmappedD6 a _ => some (a, 0xd600, 0xff00)
  | .rUnmappedD6 a => some (a, 0xd600, 0xff00)
  | .wUnmappedD7 a _ => some (a, 0xd700, 0xff00)
  | .rUnmappedD7 a => some (a, 0xd700, 0xff00)
  | .wCartctl a _ => some (a, 0xd500, 0xff00)
  | .rCartctl a => some (a, 0xd500, 0xff00)

/-- The agent that an instruction's bytes come from. -/
def Instr.source (i : Instr) : Source :=
  match i.busRow with
  | none => .displayList
  | some _ => .bus

/-- The one check of the syntax: a register access is addressed to its own register. -/
def Instr.wellFormed (i : Instr) : Bool :=
  match i.busRow with
  | none => true
  | some (a, m, k) => (a &&& k) == m

end Sys2Proof
end

