-- ==== Sys2Proof/Decode.lean ====
section
/-! DEFINITION. Decoding of display-list bytes (30_encoding R100 to R104) and of bus accesses (30_encoding R108), and
the encoder written from the same tables. -/

namespace Sys2Proof

/-- Why bytes are rejected: by name. -/
inductive DecodeError where
  /-- Fewer bytes than the instruction's length (30_encoding R102). -/
  | truncated
  /-- A bus address outside 0xd000..0xd7ff selects no register (30_encoding R108): the access is one to memory. -/
  | notIoPage
  /-- A direction byte that is neither 0 (write) nor 1 (read). -/
  | badDirection
  deriving DecidableEq, Repr

/-- `lo16(h, l)`: the word with high byte `h` and low byte `l` (00_scope R12, little-endian operands 20_memory R61). -/
def lo16 (h l : Byte) : Word := h ++ l

/-- Bits 7:0 of a word. -/
def lowByte (w : Word) : Byte := w.extractLsb' 0 8

/-- Bits 15:8 of a word: the page that selects the chip (30_encoding R108). -/
def highByte (w : Word) : Byte := w.extractLsb' 8 8

/-! ### Display-list instructions -/

/-- Bits 3:0, `MODE` (30_encoding R100). -/
def modeNibble (b0 : Byte) : BitVec 4 := b0.extractLsb' 0 4

/-- Bit 7, `DLI` (30_encoding R100). -/
def dliBit (b0 : Byte) : Bool := b0.getLsbD 7

/-- Bit 6, `LMS`, `JVB` or the high count bit (30_encoding R100). -/
def bit6 (b0 : Byte) : Bool := b0.getLsbD 6

/-- Bit 5, `VSCROL` (30_encoding R100). -/
def vscrolBit (b0 : Byte) : Bool := b0.getLsbD 5

/-- Bit 4, `HSCROL` (30_encoding R100). -/
def hscrolBit (b0 : Byte) : Bool := b0.getLsbD 4

/-- Bits 6:4, the blank count (30_encoding R104). -/
def blankCount (b0 : Byte) : BitVec 3 := b0.extractLsb' 4 3

/-- Bits 5:4 of a mode-1 byte, which the instruction ignores (30_encoding R105). -/
def ignoredBits (b0 : Byte) : BitVec 2 := b0.extractLsb' 4 2

/-- The LMS operand: present when bit 6 is 1 (30_encoding R102, R103). -/
def lmsOperand (b0 b1 b2 : Byte) : Option Word := if bit6 b0 then some (lo16 b2 b1) else none

/-- Class `MODE = 0` (30_encoding R101): BLANK. -/
def decodeBlank (b0 _ _ : Byte) : Instr := .blank (dliBit b0) (blankCount b0)

/-- Class `MODE = 1` (30_encoding R101): JMP or JVB by bit 6. -/
def decodeJump (b0 b1 b2 : Byte) : Instr :=
  if bit6 b0 then .jvb (dliBit b0) (ignoredBits b0) (lo16 b2 b1)
  else .jmp (dliBit b0) (ignoredBits b0) (lo16 b2 b1)

/-- Classes `MODE = 2..15` (30_encoding R101): the display mode line of constructor `mk`. -/
def decodeMode (mk : Bool → Option Word → Bool → Bool → Instr) (b0 b1 b2 : Byte) : Instr :=
  mk (dliBit b0) (lmsOperand b0 b1 b2) (vscrolBit b0) (hscrolBit b0)

/-- The instruction classes by `MODE` (30_encoding R101). -/
def dlClasses : Vector (Byte → Byte → Byte → Instr) 16 := #v[
  decodeBlank, decodeJump,
  decodeMode .mode2, decodeMode .mode3, decodeMode .mode4, decodeMode .mode5,
  decodeMode .mode6, decodeMode .mode7, decodeMode .mode8, decodeMode .mode9,
  decodeMode .modeA, decodeMode .modeB, decodeMode .modeC, decodeMode .modeD,
  decodeMode .modeE, decodeMode .modeF]

/-- The instruction of three fetched bytes: every byte value decodes (30_encoding R101, R105). -/
def decodeDl (b0 b1 b2 : Byte) : Instr := dlClasses[(modeNibble b0).toFin] b0 b1 b2

/-- The length of a display-list instruction, told from its first byte alone (30_encoding R102). -/
def dlLength (b0 : Byte) : Nat :=
  if modeNibble b0 = 0 then 1
  else if modeNibble b0 = 1 then 3
  else if bit6 b0 then 3 else 1

/-! ### Register accesses: the registers of each chip by offset -/

/-- GTIA writes by `addr & 0x1f` (43_gtia, table). -/
def gtiaWrites : Vector (Word → Byte → Instr) 32 := #v[
  .wHposp0, .wHposp1, .wHposp2, .wHposp3,
  .wHposm0, .wHposm1, .wHposm2, .wHposm3,
  .wSizep0, .wSizep1, .wSizep2, .wSizep3,
  .wSizem, .wGrafp0, .wGrafp1, .wGrafp2,
  .wGrafp3, .wGrafm, .wColpm0, .wColpm1,
  .wColpm2, .wColpm3, .wColpf0, .wColpf1,
  .wColpf2, .wColpf3, .wColbk, .wPrior,
  .wVdelay, .wGractl, .wHitclr, .wConsolW]

/-- GTIA reads by `addr & 0x1f` (43_gtia, table). -/
def gtiaReads : Vector (Word → Instr) 32 := #v[
  .rM0pf, .rM1pf, .rM2pf, .rM3pf,
  .rP0pf, .rP1pf, .rP2pf, .rP3pf,
  .rM0pl, .rM1pl, .rM2pl, .rM3pl,
  .rP0pl, .rP1pl, .rP2pl, .rP3pl,
  .rTrig0, .rTrig1, .rTrig2, .rTrig3,
  .rPal, .rGtia15Ff, .rGtia16Ff, .rGtia17Ff,
  .rGtia18Ff, .rGtia19Ff, .rGtia1aFf, .rGtia1bFf,
  .rGtia1cFf, .rGtia1dFf, .rGtia1eFf, .rConsol]

/-- POKEY writes by `addr & 0x0f` (44_pokey_registers, table). -/
def pokeyWrites : Vector (Word → Byte → Instr) 16 := #v[
  .wAudf1, .wAudc1, .wAudf2, .wAudc2,
  .wAudf3, .wAudc3, .wAudf4, .wAudc4,
  .wAudctl, .wStimer, .wSkres, .wPotgo,
  .wPokeyUnusedc, .wSerout, .wIrqen, .wSkctl]

/-- POKEY reads by `addr & 0x0f` (44_pokey_registers, table). -/
def pokeyReads : Vector (Word → Instr) 16 := #v[
  .rPot0, .rPot1, .rPot2, .rPot3,
  .rPot4, .rPot5, .rPot6, .rPot7,
  .rAllpot, .rKbcode, .rRandom, .rPokeybFf,
  .rPokeycFf, .rSerin, .rIrqst, .rSkstat]

/-- PIA writes by `addr & 0x03` (46_pia_and_inputs, table). -/
def piaWrites : Vector (Word → Byte → Instr) 4 := #v[
  .wPorta, .wPortb, .wPactl, .wPbctl]

/-- PIA reads by `addr & 0x03` (46_pia_and_inputs, table). -/
def piaReads : Vector (Word → Instr) 4 := #v[
  .rPorta, .rPortb, .rPactl, .rPbctl]

/-- ANTIC writes by `addr & 0x0f` (42_antic_registers, table). -/
def anticWrites : Vector (Word → Byte → Instr) 16 := #v[
  .wDmactl, .wChactl, .wDlistl, .wDlisth,
  .wHscrol, .wVscrol, .wAnticUnused6, .wPmbase,
  .wAnticUnused8, .wChbase, .wWsync, .wAnticUnusedb,
  .wAnticUnusedc, .wAnticUnusedd, .wNmien, .wNmires]

/-- ANTIC reads by `addr & 0x0f` (42_antic_registers, table). -/
def anticReads : Vector (Word → Instr) 16 := #v[
  .rAntic0Ff, .rAntic1Ff, .rAntic2Ff, .rAntic3Ff,
  .rAntic4Ff, .rAntic5Ff, .rAntic6Ff, .rAntic7Ff,
  .rAntic8Ff, .rAntic9Ff, .rAnticaFf, .rVcount,
  .rPenh, .rPenv, .rAnticeFf, .rNmist]

/-- The register write that a bus write selects: chip by page, register by masked offset (30_encoding R108, 20_memory R76). -/
def decodeWrite (addr : Word) (v : Byte) : Except DecodeError Instr :=
  match (highByte addr).toNat with
  | 0xd0 => .ok (gtiaWrites[(addr.extractLsb' 0 5).toFin] addr v)
  | 0xd1 => .ok (.wUnmappedD1 addr v)
  | 0xd2 => .ok (pokeyWrites[(addr.extractLsb' 0 4).toFin] addr v)
  | 0xd3 => .ok (piaWrites[(addr.extractLsb' 0 2).toFin] addr v)
  | 0xd4 => .ok (anticWrites[(addr.extractLsb' 0 4).toFin] addr v)
  | 0xd5 => .ok (.wCartctl addr v)
  | 0xd6 => .ok (.wUnmappedD6 addr v)
  | 0xd7 => .ok (.wUnmappedD7 addr v)
  | _ => .error .notIoPage

/-- The register read that a bus read selects (30_encoding R108, 20_memory R75). -/
def decodeRead (addr : Word) : Except DecodeError Instr :=
  match (highByte addr).toNat with
  | 0xd0 => .ok (gtiaReads[(addr.extractLsb' 0 5).toFin] addr)
  | 0xd1 => .ok (.rUnmappedD1 addr)
  | 0xd2 => .ok (pokeyReads[(addr.extractLsb' 0 4).toFin] addr)
  | 0xd3 => .ok (piaReads[(addr.extractLsb' 0 2).toFin] addr)
  | 0xd4 => .ok (anticReads[(addr.extractLsb' 0 4).toFin] addr)
  | 0xd5 => .ok (.rCartctl addr)
  | 0xd6 => .ok (.rUnmappedD6 addr)
  | 0xd7 => .ok (.rUnmappedD7 addr)
  | _ => .error .notIoPage

/-! ### Bytes to instructions -/

/-- A display-list instruction from a byte list, with the rest of the list (30_encoding R102, R103). -/
def decodeDlBytes : List Byte → Except DecodeError (Instr × List Byte)
  | [] => .error .truncated
  | b0 :: rest =>
    if dlLength b0 = 1 then .ok (decodeDl b0 0 0, rest)
    else match rest with
      | b1 :: b2 :: rest' => .ok (decodeDl b0 b1 b2, rest')
      | _ => .error .truncated

/-- A register access from a byte list: address low, address high, direction (0 write, 1 read) and, for a write, the
value. The framing is the model's (log 15): the spec gives the access as an address, a direction and a value (R110). -/
def decodeBusBytes : List Byte → Except DecodeError (Instr × List Byte)
  | lo :: hi :: dir :: rest =>
    if dir = 0 then
      match rest with
      | v :: rest' => (decodeWrite (lo16 hi lo) v).map (·, rest')
      | [] => .error .truncated
    else if dir = 1 then (decodeRead (lo16 hi lo)).map (·, rest)
    else .error .badDirection
  | _ => .error .truncated

/-- The decoder: total on any bytes, an instruction and the rest of the bytes or a rejection by name. -/
def decode : Source → List Byte → Except DecodeError (Instr × List Byte)
  | .displayList, bs => decodeDlBytes bs
  | .bus, bs => decodeBusBytes bs

/-! ### The encoder -/

/-- `dnnn0000` (41_antic_display_list R172). -/
def blankByte (dli : Bool) (count : BitVec 3) : Byte := BitVec.ofBool dli ++ count ++ (0 : BitVec 4)

/-- `djxx0001`, `j` being 0 for JMP and 1 for JVB (41_antic_display_list R173, R174). -/
def jumpByte (dli jvb : Bool) (ignored : BitVec 2) : Byte :=
  BitVec.ofBool dli ++ BitVec.ofBool jvb ++ ignored ++ (1 : BitVec 4)

/-- `dlvhmmmm` (41_antic_display_list, section 4). -/
def modeByte (m : BitVec 4) (dli lms vscrol hscrol : Bool) : Byte :=
  BitVec.ofBool dli ++ BitVec.ofBool lms ++ BitVec.ofBool vscrol ++ BitVec.ofBool hscrol ++ m

/-- An address operand: low byte first (20_memory R61). -/
def addrBytes (a : Word) : List Byte := [lowByte a, highByte a]

/-- The bytes of a display mode line: its byte, and the address when LMS is on (30_encoding R102). -/
def modeBytes (m : BitVec 4) (dli : Bool) (lms : Option Word) (vscrol hscrol : Bool) : List Byte :=
  modeByte m dli lms.isSome vscrol hscrol :: (lms.map addrBytes).getD []

/-- The bytes of a bus write in the framing of `decodeBusBytes`. -/
def writeBytes (addr : Word) (v : Byte) : List Byte := [lowByte addr, highByte addr, 0, v]

/-- The bytes of a bus read in the framing of `decodeBusBytes`. -/
def readBytes (addr : Word) : List Byte := [lowByte addr, highByte addr, 1]

/-- The bytes of an instruction. -/
def encode : Instr → List Byte
  | .blank dli count => [blankByte dli count]
  | .jmp dli ignored target => jumpByte dli false ignored :: addrBytes target
  | .jvb dli ignored target => jumpByte dli true ignored :: addrBytes target
  | .mode2 dli lms vs hs => modeBytes 0x2 dli lms vs hs
  | .mode3 dli lms vs hs => modeBytes 0x3 dli lms vs hs
  | .mode4 dli lms vs hs => modeBytes 0x4 dli lms vs hs
  | .mode5 dli lms vs hs => modeBytes 0x5 dli lms vs hs
  | .mode6 dli lms vs hs => modeBytes 0x6 dli lms vs hs
  | .mode7 dli lms vs hs => modeBytes 0x7 dli lms vs hs
  | .mode8 dli lms vs hs => modeBytes 0x8 dli lms vs hs
  | .mode9 dli lms vs hs => modeBytes 0x9 dli lms vs hs
  | .modeA dli lms vs hs => modeBytes 0xa dli lms vs hs
  | .modeB dli lms vs hs => modeBytes 0xb dli lms vs hs
  | .modeC dli lms vs hs => modeBytes 0xc dli lms vs hs
  | .modeD dli lms vs hs => modeBytes 0xd dli lms vs hs
  | .modeE dli lms vs hs => modeBytes 0xe dli lms vs hs
  | .modeF dli lms vs hs => modeBytes 0xf dli lms vs hs
  | .wDmactl addr v => writeBytes addr v
  | .wChactl addr v => writeBytes addr v
  | .wDlistl addr v => writeBytes addr v
  | .wDlisth addr v => writeBytes addr v
  | .wHscrol addr v => writeBytes addr v
  | .wVscrol addr v => writeBytes addr v
  | .wAnticUnused6 addr v => writeBytes addr v
  | .wPmbase addr v => writeBytes addr v
  | .wAnticUnused8 addr v => writeBytes addr v
  | .wChbase addr v => writeBytes addr v
  | .wWsync addr v => writeBytes addr v
  | .wAnticUnusedb addr v => writeBytes addr v
  | .wAnticUnusedc addr v => writeBytes addr v
  | .wAnticUnusedd addr v => writeBytes addr v
  | .wNmien addr v => writeBytes addr v
  | .wNmires addr v => writeBytes addr v
  | .rAntic0Ff addr => readBytes addr
  | .rAntic1Ff addr => readBytes addr
  | .rAntic2Ff addr => readBytes addr
  | .rAntic3Ff addr => readBytes addr
  | .rAntic4Ff addr => readBytes addr
  | .rAntic5Ff addr => readBytes addr
  | .rAntic6Ff addr => readBytes addr
  | .rAntic7Ff addr => readBytes addr
  | .rAntic8Ff addr => readBytes addr
  | .rAntic9Ff addr => readBytes addr
  | .rAnticaFf addr => readBytes addr
  | .rVcount addr => readBytes addr
  | .rPenh addr => readBytes addr
  | .rPenv addr => readBytes addr
  | .rAnticeFf addr => readBytes addr
  | .rNmist addr => readBytes addr
  | .wHposp0 addr v => writeBytes addr v
  | .wHposp1 addr v => writeBytes addr v
  | .wHposp2 addr v => writeBytes addr v
  | .wHposp3 addr v => writeBytes addr v
  | .wHposm0 addr v => writeBytes addr v
  | .wHposm1 addr v => writeBytes addr v
  | .wHposm2 addr v => writeBytes addr v
  | .wHposm3 addr v => writeBytes addr v
  | .wSizep0 addr v => writeBytes addr v
  | .wSizep1 addr v => writeBytes addr v
  | .wSizep2 addr v => writeBytes addr v
  | .wSizep3 addr v => writeBytes addr v
  | .wSizem addr v => writeBytes addr v
  | .wGrafp0 addr v => writeBytes addr v
  | .wGrafp1 addr v => writeBytes addr v
  | .wGrafp2 addr v => writeBytes addr v
  | .wGrafp3 addr v => writeBytes addr v
  | .wGrafm addr v => writeBytes addr v
  | .wColpm0 addr v => writeBytes addr v
  | .wColpm1 addr v => writeBytes addr v
  | .wColpm2 addr v => writeBytes addr v
  | .wColpm3 addr v => writeBytes addr v
  | .wColpf0 addr v => writeBytes addr v
  | .wColpf1 addr v => writeBytes addr v
  | .wColpf2 addr v => writeBytes addr v
  | .wColpf3 addr v => writeBytes addr v
  | .wColbk addr v => writeBytes addr v
  | .wPrior addr v => writeBytes addr v
  | .wVdelay addr v => writeBytes addr v
  | .wGractl addr v => writeBytes addr v
  | .wHitclr addr v => writeBytes addr v
  | .wConsolW addr v => writeBytes addr v
  | .rM0pf addr => readBytes addr
  | .rM1pf addr => readBytes addr
  | .rM2pf addr => readBytes addr
  | .rM3pf addr => readBytes addr
  | .rP0pf addr => readBytes addr
  | .rP1pf addr => readBytes addr
  | .rP2pf addr => readBytes addr
  | .rP3pf addr => readBytes addr
  | .rM0pl addr => readBytes addr
  | .rM1pl addr => readBytes addr
  | .rM2pl addr => readBytes addr
  | .rM3pl addr => readBytes addr
  | .rP0pl addr => readBytes addr
  | .rP1pl addr => readBytes addr
  | .rP2pl addr => readBytes addr
  | .rP3pl addr => readBytes addr
  | .rTrig0 addr => readBytes addr
  | .rTrig1 addr => readBytes addr
  | .rTrig2 addr => readBytes addr
  | .rTrig3 addr => readBytes addr
  | .rPal addr => readBytes addr
  | .rGtia15Ff addr => readBytes addr
  | .rGtia16Ff addr => readBytes addr
  | .rGtia17Ff addr => readBytes addr
  | .rGtia18Ff addr => readBytes addr
  | .rGtia19Ff addr => readBytes addr
  | .rGtia1aFf addr => readBytes addr
  | .rGtia1bFf addr => readBytes addr
  | .rGtia1cFf addr => readBytes addr
  | .rGtia1dFf addr => readBytes addr
  | .rGtia1eFf addr => readBytes addr
  | .rConsol addr => readBytes addr
  | .wAudf1 addr v => writeBytes addr v
  | .wAudc1 addr v => writeBytes addr v
  | .wAudf2 addr v => writeBytes addr v
  | .wAudc2 addr v => writeBytes addr v
  | .wAudf3 addr v => writeBytes addr v
  | .wAudc3 addr v => writeBytes addr v
  | .wAudf4 addr v => writeBytes addr v
  | .wAudc4 addr v => writeBytes addr v
  | .wAudctl addr v => writeBytes addr v
  | .wStimer addr v => writeBytes addr v
  | .wSkres addr v => writeBytes addr v
  | .wPotgo addr v => writeBytes addr v
  | .wPokeyUnusedc addr v => writeBytes addr v
  | .wSerout addr v => writeBytes addr v
  | .wIrqen addr v => writeBytes addr v
  | .wSkctl addr v => writeBytes addr v
  | .rPot0 addr => readBytes addr
  | .rPot1 addr => readBytes addr
  | .rPot2 addr => readBytes addr
  | .rPot3 addr => readBytes addr
  | .rPot4 addr => readBytes addr
  | .rPot5 addr => readBytes addr
  | .rPot6 addr => readBytes addr
  | .rPot7 addr => readBytes addr
  | .rAllpot addr => readBytes addr
  | .rKbcode addr => readBytes addr
  | .rRandom addr => readBytes addr
  | .rPokeybFf addr => readBytes addr
  | .rPokeycFf addr => readBytes addr
  | .rSerin addr => readBytes addr
  | .rIrqst addr => readBytes addr
  | .rSkstat addr => readBytes addr
  | .wPorta addr v => writeBytes addr v
  | .rPorta addr => readBytes addr
  | .wPortb addr v => writeBytes addr v
  | .rPortb addr => readBytes addr
  | .wPactl addr v => writeBytes addr v
  | .rPactl addr => readBytes addr
  | .wPbctl addr v => writeBytes addr v
  | .rPbctl addr => readBytes addr
  | .wUnmappedD1 addr v => writeBytes addr v
  | .rUnmappedD1 addr => readBytes addr
  | .wUnmappedD6 addr v => writeBytes addr v
  | .rUnmappedD6 addr => readBytes addr
  | .wUnmappedD7 addr v => writeBytes addr v
  | .rUnmappedD7 addr => readBytes addr
  | .wCartctl addr v => writeBytes addr v
  | .rCartctl addr => readBytes addr

/-! ### The host's question about a row of the opcode table -/

/-- The low `n` bytes of a numeral, the least significant first. -/
def bytesOf : Nat → Nat → List Byte
  | 0, _ => []
  | n + 1, w => BitVec.ofNat 8 w :: bytesOf n (w / 256)

/-- Whether a row of `nbits` table bits is a display-list row (8 bits, or 24 with its operand) or a register access
(16 bits, or 32 with its direction and value): the widths of spec/opcode_table.json's formats (log 15). -/
def sourceOfBits (nbits : Nat) : Option Source :=
  if nbits = 8 ∨ nbits = 24 then some .displayList
  else if nbits = 16 ∨ nbits = 32 then some .bus
  else none

/-- The instruction the decoder reads from an instruction whose table bits are `w`, every bit above `nbits` being 0. -/
def decodeTableWord (nbits w : Nat) : Option Instr :=
  match sourceOfBits nbits with
  | none => none
  | some src =>
    match decode src (bytesOf 4 (w % 2 ^ nbits)) with
    | .ok (i, _) => some i
    | .error _ => none

end Sys2Proof
end

