-- ==== Sys2Proof/Config.lean ====
section
/-! DEFINITION. What an implementation fixes (00_scope R10) and the free values (00_scope R11).
Each parameter is an opaque constant: a statement about the machine holds for every admitted value of it. -/

namespace Sys2Proof

/-- The RAM variants (20_memory R73); every other size is refused before the first tick (60_exceptions R391),
so no other value exists here. -/
inductive RamSize where
  | k64
  | k128
  | k320
  deriving DecidableEq, Repr, Inhabited

/-- The number of RAM bytes of a variant (10_state R54). -/
def RamSize.bytes : RamSize → Nat
  | .k64 => 0x10000
  | .k128 => 0x20000
  | .k320 => 0x50000

/-- A steal window `(start, len)` of a scan line's DMA schedule (40_antic_timing R140, glossary). -/
structure Window where
  start : Nat
  len : Nat
  deriving DecidableEq, Repr, Inhabited

/-- The index of the DMA schedule (40_antic_timing R141). -/
structure DmaKey where
  dmactl : Byte
  ir : Byte
  hscrol : BitVec 4
  lineIndex : Nat
  firstLine : Bool
  dlFetched : Bool
  voffset : BitVec 4
  deriving DecidableEq, Repr

/-- A host key: the two the source fixes (44_pokey_registers R333) and every other one by a number. -/
inductive HostKey where
  | a
  | leftBracket
  | other (n : Nat)
  deriving DecidableEq, Repr

/-- The bound of a well-formed schedule, from `lo` on: every window is non-empty, ends at cycle 112 at the latest,
and starts no earlier than the one before it ended (40_antic_timing R142). -/
def windowsOkFrom (lo : Nat) : List Window → Bool
  | [] => true
  | w :: ws => decide (lo ≤ w.start) && decide (1 ≤ w.len) && decide (w.start + w.len ≤ 112)
      && windowsOkFrom (w.start + w.len) ws

/-- A list of windows that the spec admits as one scan line's schedule (40_antic_timing R142). -/
def windowsOk (ws : List Window) : Bool := windowsOkFrom 0 ws

/-- An admitted `dma_schedule`: a table that is well formed on every key. A table that is not cannot be configured
(40_antic_timing R142, 60_exceptions R391). The defaults only show that an admitted schedule exists. -/
structure DmaSchedule where
  table : DmaKey → List Window := fun _ => []
  admitted : ∀ k, windowsOk (table k) = true := by intro _; rfl
  deriving Inhabited

/-- An admitted `volume_curve`: 0 at level 0 and never decreasing. A curve that is not cannot be configured
(45_pokey_synthesis R354, 60_exceptions R391). The defaults only show that an admitted curve exists. -/
structure VolumeCurve where
  value : Fin 61 → Rat := fun _ => 0
  zero : value 0 = 0 := by rfl
  rising : ∀ i : Fin 60, value i.castSucc ≤ value i.succ := by intro _; exact Rat.le_refl
  deriving Inhabited

/-- A sample rate: positive, so that every sample has its cycle (45_pokey_synthesis R355; log 22). The defaults only
show that one exists. -/
structure SampleRate where
  value : Rat := 1
  positive : 0 < value := by decide
  deriving Inhabited

/-- Why a configuration is refused before the first tick (60_exceptions R391). The import of a state snapshot, R391's
remaining reason, is out of scope (00_scope R5). -/
inductive ConfigFault where
  /-- `ram_size` is none of the variants (20_memory R73). -/
  | ramSize
  /-- The OS ROM image does not have 16384 bytes. -/
  | osRom
  /-- The BASIC image does not have 8192 bytes. -/
  | basicRom
  /-- One of the cartridge's four operations is not total. -/
  | cartridge
  /-- `dma_schedule` breaks 40_antic_timing R142. -/
  | dmaSchedule
  /-- `visible_cycle` is outside 0..113. -/
  | visibleCycle
  /-- `volume_curve` breaks 45_pokey_synthesis R354. -/
  | volumeCurve
  deriving DecidableEq, Repr

/-- The synthesis and machine clock, cycles a second (00_scope R9). -/
def clockHz : Nat := 1778400

/-- `ram_size` (R10, 92 D36). -/
opaque Config.ramSize : RamSize

/-- `os_rom`, 16384 bytes (R10, 92 D38). -/
opaque Config.osRom : BitVec 14 → Byte

/-- Whether a BASIC image is configured (R10, 92 D38). -/
opaque Config.basicPresent : Bool

/-- `basic_rom`, 8192 bytes, read only where one is configured (R10, 92 D38). -/
opaque Config.basicRom : BitVec 13 → Byte

/-- Whether a cartridge is configured (R10, 92 D39). -/
opaque Config.cartPresent : Bool

/-- The cartridge capability's `is_enabled`, over its state (20_memory R67). -/
opaque Config.cartIsEnabled : Nat → Bool

/-- The cartridge capability's `read` (20_memory R67): no side effect. -/
opaque Config.cartRead : Nat → Word → Byte

/-- The cartridge capability's `write` (20_memory R67): the state after it. -/
opaque Config.cartWrite : Nat → Word → Byte → Nat

/-- The cartridge capability's `reset` (20_memory R67): the state after it. -/
opaque Config.cartReset : Nat → Nat

/-- `dma_schedule`: any admitted one (40_antic_timing R142, 92 D16). -/
opaque Config.dmaSchedule : DmaSchedule

/-- `visible_cycle`, 0..113 (40_antic_timing R155, 92 D21). -/
opaque Config.visibleCycle : Fin 114

/-- `hposp0_accept` (43_gtia R241, 92 D23). -/
opaque Config.hposp0Accept : Byte → Bool

/-- The part of `key_map` that the source does not fix: code, shift, control (44_pokey_registers R333, 92 D29). -/
opaque Config.keyTable : HostKey → Bool → Bool → Option (BitVec 6 × Bool × Bool)

/-- The 4-bit polynomial sequence and its start index (45_pokey_synthesis R348, 92 D32). -/
opaque Config.poly4 : Fin 15 → Bool
opaque Config.start4 : Fin 15

/-- The 5-bit polynomial sequence and its start index (45_pokey_synthesis R348, 92 D32). -/
opaque Config.poly5 : Fin 31 → Bool
opaque Config.start5 : Fin 31

/-- The 9-bit polynomial sequence and its start index (45_pokey_synthesis R348, 92 D32). -/
opaque Config.poly9 : Fin 511 → Bool
opaque Config.start9 : Fin 511

/-- The 17-bit polynomial sequence and its start index (45_pokey_synthesis R348, 92 D32). -/
opaque Config.poly17 : Fin 131071 → Bool
opaque Config.start17 : Fin 131071

/-- `volume_curve`: any admitted one (45_pokey_synthesis R354, 92 D33). -/
opaque Config.volumeCurve : VolumeCurve

/-- The FIR coefficients `h[0..L-1]` (45_pokey_synthesis R355, 92 D33).
DESIGN CHOICE: the spec gives them no number type; here they are any rationals (log 11). -/
opaque Config.firFilter : List Rat

/-- `host_sample_rate`, in samples a second (45_pokey_synthesis R355, 92 D33).
DESIGN CHOICE: the spec gives the parameter no number type and no domain; here it is any positive rational (log 22). -/
opaque Config.hostSampleRate : SampleRate

/-- `delta_t` in seconds (45_pokey_synthesis R340, 92 D56).
DESIGN CHOICE: the spec gives it no number type; here it is any rational (log 12). -/
opaque Config.deltaT : Rat

/-- `latency` in seconds (45_pokey_synthesis R340, 92 D56).
DESIGN CHOICE: the spec gives it no number type; here it is any rational (log 12). -/
opaque Config.latency : Rat

/-- `ram_power_on`: the free byte that RAM index `i` holds at power-on (00_scope R10, R11; 10_state R54, R58; 92 D43). -/
opaque Config.ramPowerOn : Nat → Byte

/-- The free byte of the n-th register draw (00_scope R11, R13). -/
opaque Config.draw : Nat → Byte

/-- The free `at_boundary` of the n-th CPU cycle for which the driver queued no input (40_antic_timing R157). -/
opaque Config.idleBoundary : Nat → Bool

end Sys2Proof
end

