-- ==== Sys2Proof/Machine/State.lean ====
section
/-! DEFINITION. The state of the machine as plain data (10_state, 45_pokey_synthesis R341), the outcomes of a step,
and the state right after power-on (70_reset_and_hazards R422). -/

namespace Sys2Proof.Machine

/-- Reasons to stop with a fault. There are none: no operation of the core faults, traps or halts
(60_exceptions R390, 20_memory R81), so the type is empty and no step can answer a fault. -/
inductive Fault where
  deriving DecidableEq, Repr

/-- Reasons to refuse. -/
inductive Refusal where
  /-- An instruction without a meaning yet. `exec` would raise it; every instruction has its meaning, so nothing does.
  Safe: a refusal proves nothing false. -/
  | notModelled (mnemonic : String)
  /-- A configuration outside its stated domain (60_exceptions R391). `Start` raises it, before the first step; no step
  does. Safe: nothing is claimed of a machine that does not start. -/
  | configuration (reason : ConfigFault)
  deriving DecidableEq, Repr

/-- The two requests of the NMI logic (10_state R37). -/
inductive NmiKind where
  | dli
  | vbi
  deriving DecidableEq, Repr

/-- ANTIC (10_state R22 to R39). -/
structure Antic where
  /-- Bus cycle within the scan line, 0..113 (R22). -/
  cycle : Nat
  /-- Scan line of the frame, 0..311 (R23). -/
  scanLine : Nat
  /-- Cycles elapsed since power-on (R24). -/
  totalCycles : Nat
  /-- DMACTL (R25). -/
  dmactl : Byte
  /-- CHACTL (R26). -/
  chactl : Byte
  /-- The display-list pointer (R27). -/
  dlist : Word
  /-- HSCROL, bits 3:0 used (R28). -/
  hscrol : Byte
  /-- VSCROL, bits 3:0 used (R28). -/
  vscrol : Byte
  /-- PMBASE (R29). -/
  pmbase : Byte
  /-- CHBASE (R29). -/
  chbase : Byte
  /-- NMIEN: bit 7 DLI, bit 6 VBI (R30). -/
  nmien : Byte
  /-- NMIST: bit 7 DLI, bit 6 VBI (R31). -/
  nmist : Byte
  /-- The current display-list instruction byte (R32). -/
  ir : Byte
  /-- The video-memory pointer (R33). -/
  videoMemory : Word
  /-- Whether the last display mode line had its VSCROL option set (R34). -/
  vscrolActive : Bool
  /-- The current mode line's vertical pixel offset (R34). -/
  voffset : BitVec 4
  /-- First scan line of the current mode line (R35). -/
  startScanLine : Nat
  /-- Height of the current mode line (R35). -/
  lineHeight : Nat
  /-- Scan line of the next mode-line start (R35). -/
  nextScanLine : Nat
  /-- WSYNC was written and its stall is still to come (R36). -/
  wsyncPending : Bool
  /-- The latched NMI request (R37). -/
  nmiPending : Option NmiKind
  /-- Steal windows of this scan line not yet charged (R38). -/
  dmaWindows : List Window
  /-- This scan line's snapshot has been emitted (R39). -/
  snapshotDone : Bool
  deriving DecidableEq, Repr

/-- GTIA (10_state R41 to R44). -/
structure Gtia where
  /-- The raw write-register file (R41). -/
  regs : Vector Byte 32
  /-- Player graphics (R42). -/
  playerGraphics : Vector Byte 4
  /-- Missile graphics (R42). -/
  missileGraphics : Byte
  /-- Priority (R42). -/
  prior : Byte
  /-- Filtered HPOSP0 (R42). -/
  hposp0Filtered : Byte
  /-- Collision registers M0PF..M3PF, P0PF..P3PF, M0PL..M3PL, P0PL..P3PL (R43). -/
  collisions : Vector Byte 16
  /-- Trigger latches, 0 pressed (R44). -/
  trig : Vector (BitVec 1) 4
  deriving DecidableEq, Repr

/-- One entry of the POKEY queue (10_state R48). -/
structure QueueEntry where
  timestamp : Nat
  reg : Fin 9
  value : Byte
  deriving DecidableEq, Repr

/-- POKEY on the bus side (10_state R45 to R48). -/
structure Pokey where
  /-- IRQEN (R45). -/
  irqen : Byte
  /-- IRQST, active low (R45). -/
  irqst : Byte
  /-- KBCODE (R46). -/
  kbcode : Byte
  /-- SKSTAT, active low (R46). -/
  skstat : Byte
  /-- The byte stored by SKCTL (R47). -/
  skctl : Byte
  /-- The byte stored by POTGO (R47). -/
  potgo : Byte
  /-- The byte stored by STIMER (R47). -/
  stimer : Byte
  /-- The byte stored by SKRES (R47). -/
  skres : Byte
  /-- The byte stored by SEROUT (R47). -/
  serout : Byte
  /-- The timestamped register-write queue, oldest first (R48). -/
  audioQueue : List QueueEntry
  deriving DecidableEq, Repr

/-- The PIA (10_state R50). -/
structure Pia where
  portaOut : Byte
  portaDdr : Byte
  pactl : Byte
  portbOut : Byte
  portbDdr : Byte
  pbctl : Byte
  deriving DecidableEq, Repr

/-- A drained queue entry with the synthesis cycle `s_e` before which it is applied (45_pokey_synthesis R340). -/
structure TimedWrite where
  due : Nat
  reg : Fin 9
  value : Byte
  deriving DecidableEq, Repr

/-- The audio backend's synthesis state (45_pokey_synthesis R341). -/
structure Synth where
  /-- AUDF1..AUDF4. -/
  audf : Vector Byte 4
  /-- AUDC1..AUDC4. -/
  audc : Vector Byte 4
  /-- AUDCTL. -/
  audctl : Byte
  /-- Divider counters; a linked pair's counter is the high channel's (R346). -/
  cnt : Vector Nat 4
  /-- Output flip-flops. -/
  outFF : Vector Bool 4
  /-- High-pass flip-flops of channels 1 and 2. -/
  hp : Vector Bool 2
  /-- The next synthesis cycle `s`. -/
  cycle : Nat
  /-- Drained entries not yet applied, in queue order (R340). -/
  pending : List TimedWrite
  /-- `x(s-1), x(s-2), …, x(0)`: the FIR history (R341, R355). -/
  history : List Rat
  deriving DecidableEq, Repr

/-- The mode-line descriptor (41_antic_display_list R187). -/
structure ModeLineDescr where
  mode : BitVec 4
  /-- Bit 3 DLI, bit 2 LMS/JVB, bit 1 VSCROL, bit 0 HSCROL: `ir[7:4]`. -/
  opts : BitVec 4
  width : Nat
  height : Nat
  nBytes : Nat
  voffset : BitVec 4
  videoOffset : Word
  charsetBase : Word
  pmBase : Word
  hscrol : BitVec 4
  deriving DecidableEq, Repr

/-- The GTIA snapshot (43_gtia R298). -/
structure GtiaSnapshot where
  regs : Vector Byte 32
  playerGraphics : Vector Byte 4
  missileGraphics : Byte
  prior : Byte
  hposp0Filtered : Byte
  deriving DecidableEq, Repr

/-- The line snapshot (40_antic_timing R156). -/
structure LineSnapshot where
  scanLine : Nat
  lineIndex : Nat
  chactl : Byte
  gtia : GtiaSnapshot
  deriving DecidableEq, Repr

/-- The outputs of the step just made (40_antic_timing R130; 44_pokey_registers R332, R334; 45_pokey_synthesis R355).
The model's own field: the spec gives them as results (log 3). -/
structure Output where
  /-- The byte a bus read returned to the CPU. -/
  readData : Option Byte
  /-- The NMI pulse of the tick. -/
  nmi : Bool
  /-- The cycles the tick took from the CPU. -/
  stolen : Nat
  /-- The descriptor of the mode line that the tick started. -/
  descr : Option ModeLineDescr
  /-- The snapshot that the tick emitted. -/
  snapshot : Option LineSnapshot
  /-- The IRQ result of a key or environment event. -/
  irq : Bool
  /-- The host samples of a synthesis cycle. -/
  samples : List Rat
  deriving DecidableEq, Repr

/-- The sources of IRQ environment events (44_pokey_registers R334): every POKEY source but the keyboard. -/
inductive IrqSource where
  | timer1
  | timer2
  | timer4
  | serialOutDone
  | serialOutNeeded
  | serialIn
  | breakKey
  deriving DecidableEq, Repr

/-- The two Multiplexers of the core (10_state R53). -/
inductive MuxId where
  | joystick
  | console
  deriving DecidableEq, Repr

/-- What the driver, the audio backend and the host do to the core (00_scope R8, 40_antic_timing R157, R158). -/
inductive Input where
  /-- One CPU bus cycle (40_antic_timing R130). -/
  | tick (atBoundary : Bool)
  /-- One CPU bus write (20_memory R71). -/
  | write (addr : Word) (v : Byte)
  /-- One CPU bus read (20_memory R70). -/
  | read (addr : Word)
  /-- A host key event (44_pokey_registers R332). -/
  | keyPress (key : HostKey) (pressed shift ctl : Bool)
  /-- An IRQ environment event (44_pokey_registers R334). -/
  | irqEvent (source : IrqSource)
  /-- A collision input (43_gtia R296). -/
  | collide (i : Fin 16) (m : Byte)
  /-- A trigger input (43_gtia R297). -/
  | setTrigger (i : Fin 4) (pressed : Bool)
  /-- A Multiplexer input (46_pia_and_inputs R380). -/
  | muxSet (mux : MuxId) (source : Nat) (mask : Byte)
  /-- The audio backend takes the whole queue (45_pokey_synthesis R340). -/
  | audioDrain
  /-- The audio backend computes one synthesis cycle (45_pokey_synthesis R352). -/
  | synthCycle
  /-- A machine reset, cold or warm (70_reset_and_hazards R420). -/
  | machineReset
  deriving DecidableEq, Repr

/-- The machine. -/
structure State where
  antic : Antic
  gtia : Gtia
  pokey : Pokey
  pia : Pia
  /-- Masks of the joystick Multiplexer by source; an unlisted source holds 0 (10_state R53). -/
  joyMux : List Host.Cell
  /-- Masks of the console Multiplexer by source (10_state R53). -/
  consolMux : List Host.Cell
  /-- The RAM image by RAM index, extended banks from 0x10000 on (10_state R54); an unlisted index holds its
  power-on byte (log 1). -/
  mem : List Host.Cell
  /-- The cartridge capability's own state (20_memory R67, log 5). -/
  cart : Nat
  synth : Synth
  /-- What the driver and the host do next, in order (log 2). -/
  inputs : List Input
  /-- The outputs of the last step (log 3). -/
  out : Output
  /-- How many free values the run has used (log 4). -/
  draws : Nat
  deriving DecidableEq, Repr

/-- The outcome of a step or of a meaning. -/
abbrev Res := Host.Outcome State Fault Refusal

/-- ANTIC's zero state (70_reset_and_hazards R420). -/
def Antic.zero : Antic where
  cycle := 0
  scanLine := 0
  totalCycles := 0
  dmactl := 0
  chactl := 0
  dlist := 0
  hscrol := 0
  vscrol := 0
  pmbase := 0
  chbase := 0
  nmien := 0
  nmist := 0
  ir := 0
  videoMemory := 0
  vscrolActive := false
  voffset := 0
  startScanLine := 0
  lineHeight := 0
  nextScanLine := 0
  wsyncPending := false
  nmiPending := none
  dmaWindows := []
  snapshotDone := false

/-- Outputs at rest. -/
def Output.quiet : Output where
  readData := none
  nmi := false
  stolen := 0
  descr := none
  snapshot := none
  irq := false
  samples := []

/-- The state at power-on (70_reset_and_hazards R422, 10_state R58). -/
def State.reset : State where
  antic := Antic.zero
  gtia := {
    regs := Vector.replicate 32 0
    playerGraphics := Vector.replicate 4 0
    missileGraphics := 0
    prior := 0
    hposp0Filtered := 0
    collisions := Vector.replicate 16 0
    trig := Vector.replicate 4 1 }
  pokey := {
    irqen := 0
    irqst := 0xff
    kbcode := 0xff
    skstat := 0xff
    skctl := 0
    potgo := 0
    stimer := 0
    skres := 0
    serout := 0
    audioQueue := [] }
  pia := { portaOut := 0, portaDdr := 0, pactl := 0, portbOut := 0, portbDdr := 0, pbctl := 0 }
  joyMux := []
  consolMux := []
  mem := []
  cart := 0
  synth := {
    audf := Vector.replicate 4 0
    audc := Vector.replicate 4 0
    audctl := 0
    cnt := Vector.replicate 4 0
    outFF := Vector.replicate 4 false
    hp := Vector.replicate 2 false
    cycle := 0
    pending := []
    history := [] }
  inputs := []
  out := Output.quiet
  draws := 0

end Sys2Proof.Machine
end

