-- ==== Sys2Proof/Machine/Ops.lean ====
section
/-! DEFINITION. The named operations over the state: memory cells, bank resolution and the access primitives
(20_memory), the Multiplexers (46_pia_and_inputs), the bus data output and the interrupt requests (60_exceptions). -/

namespace Sys2Proof.Machine

/-! ### Parts of the state -/

def State.setAntic (s : State) (a : Antic) : State := { s with antic := a }
def State.setGtia (s : State) (g : Gtia) : State := { s with gtia := g }
def State.setPokey (s : State) (p : Pokey) : State := { s with pokey := p }
def State.setPia (s : State) (p : Pia) : State := { s with pia := p }
def State.setJoyMux (s : State) (m : List Host.Cell) : State := { s with joyMux := m }
def State.setConsolMux (s : State) (m : List Host.Cell) : State := { s with consolMux := m }
def State.setMem (s : State) (m : List Host.Cell) : State := { s with mem := m }
def State.setCart (s : State) (c : Nat) : State := { s with cart := c }
def State.setSynth (s : State) (y : Synth) : State := { s with synth := y }
def State.setInputs (s : State) (is : List Input) : State := { s with inputs := is }
def State.setOut (s : State) (o : Output) : State := { s with out := o }
def State.setDraws (s : State) (n : Nat) : State := { s with draws := n }

/-- Runs `f` on the next state of `o`; a fault or a refusal stays what it is. -/
def andThen (o : Res) (f : State → State) : Res :=
  match o with
  | .next s => .next (f s)
  | .fault r => .fault r
  | .refused r => .refused r

/-! ### Bytes by address: RAM and Multiplexer masks -/

/-- What a RAM byte that is not listed holds: its free power-on byte (10_state R54, R58; log 1). -/
def unlistedByte : Nat → Byte := Config.ramPowerOn

/-- What a Multiplexer source that is not listed holds (10_state R53). -/
def unsetMask : Nat → Byte := fun _ => 0

/-- The byte at an address, `u` giving those that are not listed. -/
def Memory.read (u : Nat → Byte) : List Host.Cell → Nat → Byte
  | [], a => u a
  | (k, v) :: m, a => if k = a then v else Memory.read u m a

/-- Lists the byte at an address, in its place in the rising order. -/
def Memory.put : List Host.Cell → Nat → Byte → List Host.Cell
  | [], a, v => [(a, v)]
  | (k, w) :: m, a, v =>
    if a < k then (a, v) :: (k, w) :: m
    else if a = k then (a, v) :: m
    else (k, w) :: Memory.put m a v

/-- Takes an address out of the list. -/
def Memory.erase (m : List Host.Cell) (a : Nat) : List Host.Cell := m.filter fun c => decide (c.1 ≠ a)

/-- Writes the byte at an address and keeps the canonical form: the byte that an unlisted address holds is not listed. -/
def Memory.write (u : Nat → Byte) (m : List Host.Cell) (a : Nat) (v : Byte) : List Host.Cell :=
  if v = u a then Memory.erase m a else Memory.put m a v

/-- The canonical form from address `lo` on. -/
def wfFrom (u : Nat → Byte) (lo : Nat) : List Host.Cell → Bool
  | [] => true
  | (k, v) :: m => decide (lo ≤ k) && decide (v ≠ u k) && wfFrom u (k + 1) m

/-- The canonical form: addresses strictly rising, no byte equal to what an unlisted address holds. -/
def Memory.wf (u : Nat → Byte) (m : List Host.Cell) : Bool := wfFrom u 0 m

/-- `ram[i]` (10_state R54). -/
def State.ram (s : State) (i : Nat) : Byte := Memory.read unlistedByte s.mem i

/-- `ram[i] <- v` (20_memory R71). -/
def State.setRam (s : State) (i : Nat) (v : Byte) : State := s.setMem (Memory.write unlistedByte s.mem i v)

/-- `mux_out`: the OR of the masks of every source (46_pia_and_inputs R380). -/
def muxOut (m : List Host.Cell) : Byte := m.foldr (fun c acc => c.2 ||| acc) 0

/-- `porta_in`: the joystick lines, active low (46_pia_and_inputs R381). -/
def portaIn (s : State) : Byte := ~~~(muxOut s.joyMux)

/-! ### Bank resolution (20_memory section 3) -/

/-- `portb_eff`: output pins show the latch, input pins read 1 (10_state R51). -/
def portbEff (p : Pia) : Byte := (p.portbOut &&& p.portbDdr) ||| ~~~p.portbDdr

/-- The two views of the address space (20_memory R63). -/
inductive View where
  | cpu
  | antic
  deriving DecidableEq, Repr

/-- The kind of an access (20_memory R63). -/
inductive AccessKind where
  | read
  | write
  deriving DecidableEq, Repr

/-- What an access resolves to (20_memory R63). -/
inductive Target where
  | ram (i : Nat)
  | osRom (i : Nat)
  | basic (i : Nat)
  | cart
  | io
  | sink
  deriving DecidableEq, Repr

/-- The inputs of `resolve` (20_memory R69). -/
structure BankEnv where
  ramSize : RamSize
  basicPresent : Bool
  cartEnabled : Bool
  portb : Byte
  deriving DecidableEq, Repr

/-- `ext_selected` (20_memory R73). -/
def extSelected (e : BankEnv) (view : View) : Bool :=
  match e.ramSize, view with
  | .k64, _ => false
  | .k128, .cpu => !e.portb.getLsbD 4
  | .k128, .antic => !e.portb.getLsbD 5
  | .k320, _ => !e.portb.getLsbD 4

/-- `ext_bank` (20_memory R73); the 64 KB machine has no extended bank and never asks. -/
def extBank (e : BankEnv) : Nat :=
  match e.ramSize with
  | .k64 => 0
  | .k128 => (e.portb.extractLsb' 2 2).toNat
  | .k320 => (e.portb.extractLsb' 2 2).toNat + 4 * (e.portb.extractLsb' 5 2).toNat

/-- `selftest_visible` (20_memory R68). -/
def selftestVisible (e : BankEnv) (view : View) : Bool :=
  e.portb.getLsbD 0 && !e.portb.getLsbD 7 && !extSelected e view

/-- A read of read-only storage, or the write sink (20_memory R63, R74). -/
def romTarget (kind : AccessKind) (t : Target) : Target :=
  match kind with
  | .read => t
  | .write => .sink

/-- `resolve(view, kind, addr)`: the first rule that matches (20_memory R63). -/
def resolve (e : BankEnv) (view : View) (kind : AccessKind) (addr : Word) : Target :=
  let a := addr.toNat
  if 0xd000 ≤ a ∧ a ≤ 0xd7ff then .io
  else if 0xc000 ≤ a then
    if e.portb.getLsbD 0 then romTarget kind (.osRom (a - 0xc000)) else .ram a
  else if 0xa000 ≤ a ∧ a ≤ 0xbfff then
    if e.cartEnabled then romTarget kind .cart
    else if e.basicPresent && !e.portb.getLsbD 1 then romTarget kind (.basic (a - 0xa000))
    else .ram a
  else if 0x5000 ≤ a ∧ a ≤ 0x57ff ∧ selftestVisible e view then
    romTarget kind (.osRom (a - 0x5000 + 0x1000))
  else if 0x4000 ≤ a ∧ a ≤ 0x7fff ∧ extSelected e view then
    .ram (0x10000 + extBank e * 0x4000 + (a - 0x4000))
  else .ram a

/-- The current inputs of `resolve`: evaluated on each access, so it is never stale (20_memory R69, 92 D42). -/
def State.bankEnv (s : State) : BankEnv where
  ramSize := Config.ramSize
  basicPresent := Config.basicPresent
  cartEnabled := Config.cartPresent && Config.cartIsEnabled s.cart
  portb := portbEff s.pia

/-! ### Access primitives (20_memory section 4) -/

/-- The byte a read's target holds outside the I/O page (20_memory R70); a read resolves to neither `io` nor `sink`
here, and open bus is what remains (20_memory R77). -/
def targetByte (s : State) (addr : Word) : Target → Byte
  | .ram i => s.ram i
  | .osRom i => Config.osRom (BitVec.ofNat 14 i)
  | .basic i => Config.basicRom (BitVec.ofNat 13 i)
  | .cart => Config.cartRead s.cart addr
  | .io => 0xff
  | .sink => 0xff

/-- `MemRead_ANTIC(addr)`: the I/O page reads 0xff (20_memory R72). -/
def memReadAntic (s : State) (addr : Word) : Byte :=
  targetByte s addr (resolve s.bankEnv .antic .read addr)

/-- `MemRead_CPU(addr)` outside the I/O page (20_memory R70). -/
def memReadCpu (s : State) (addr : Word) : Byte :=
  targetByte s addr (resolve s.bankEnv .cpu .read addr)

/-- `MemWrite_CPU(addr, v)` outside the I/O page: RAM is written, a ROM or cartridge region sinks the byte
(20_memory R71, R74). -/
def memWriteCpu (s : State) (addr : Word) (v : Byte) : State :=
  match resolve s.bankEnv .cpu .write addr with
  | .ram i => s.setRam i v
  | _ => s

/-! ### The bus data output -/

/-- A bus read returns `v` to the CPU. -/
def driveData (v : Byte) (s : State) : State := s.setOut { s.out with readData := some v }

/-- A bus read of a register whose value is a draw (00_scope R11, 92 D5): a fresh free byte. -/
def driveDraw (s : State) : State := (driveData (Config.draw s.draws) s).setDraws (s.draws + 1)

/-- A bus read of a write-only or unused register: open bus (20_memory R77, 92 D4). -/
def driveOpenBus (s : State) : State := driveData 0xff s

/-! ### The display-list pointer -/

/-- `dlist_offset(k)`: bits 9:0 count, bits 15:10 stay (10_state R27, 90_conflicts C1). -/
def dlistOffset (dlist : Word) (k : Nat) : Word :=
  (dlist &&& 0xfc00) ||| ((dlist + BitVec.ofNat 16 k) &&& 0x03ff)

/-! ### Interrupt requests, the core's only exceptions (60_exceptions R390, R394, R395) -/

/-- `v` with bit `i` set to `b`. -/
def withBit (v : Byte) (i : Nat) (b : Bool) : Byte :=
  if b then v ||| BitVec.twoPow 8 i else v &&& ~~~(BitVec.twoPow 8 i)

/-- The NMIST bit of a request: bit 7 for a DLI, bit 6 for a VBI (10_state R31). -/
def NmiKind.bit : NmiKind → Nat
  | .dli => 7
  | .vbi => 6

/-- `fire_nmi()`: takes the latched request `k`, sets exactly its status bit, and pulses NMI if it is enabled
(40_antic_timing R152). The 6502's own entry sequence is outside the core (60_exceptions R397). -/
def fireNmi (k : NmiKind) (s : State) : State :=
  (s.setAntic { s.antic with nmiPending := none, nmist := BitVec.twoPow 8 k.bit }).setOut
    { s.out with nmi := s.antic.nmien.getLsbD k.bit }

/-- A POKEY source requests an interrupt: its IRQST bit goes to 0 and the IRQ output says whether it is raised
(44_pokey_registers R332, R334). -/
def requestIrq (bit : Nat) (raised : Bool) (s : State) : State :=
  (s.setPokey { s.pokey with irqst := withBit s.pokey.irqst bit false }).setOut { s.out with irq := raised }

end Sys2Proof.Machine
end

