-- ==== Sys2Proof/Machine/Flags.lean ====
section
/-! DEFINITION. The computed status values: raster predicates, VCOUNT, NMIST and the active-low POKEY status bytes. -/

namespace Sys2Proof.Machine

/-- `visible(l)`: lines 8..247 (40_antic_timing R132). -/
def visible (l : Nat) : Bool := decide (8 ≤ l) && decide (l < 248)

/-- `vcount(scan_line, cycle)` (42_antic_registers R223). -/
def vcount (scanLine cycle : Nat) : Byte :=
  if 110 ≤ cycle then BitVec.ofNat 8 ((scanLine + 1) % 312 / 2) else BitVec.ofNat 8 (scanLine / 2)

/-- The byte NMIST reads as: bits 4:0 are 1 (42_antic_registers R221). -/
def nmistRead (a : Antic) : Byte := a.nmist ||| 0x1f

/-- `is_dli()`: a visible last scan line of a mode line with the DLI bit (40_antic_timing R153). -/
def isDli (a : Antic) : Bool :=
  visible a.scanLine && a.ir.getLsbD 7 && decide (a.scanLine + 1 = a.startScanLine + a.lineHeight)

/-- `is_new_mode_line()` (40_antic_timing R133, 90_conflicts C12). -/
def isNewModeLine (a : Antic) : Bool :=
  visible a.scanLine && (decide (a.scanLine = 8) || decide (a.scanLine = a.nextScanLine))

/-- IRQST after IRQEN is written with `v`: a source that is not enabled reads 1, no request
(44_pokey_registers R314, 90_conflicts C3). -/
def ackIrqst (irqst v : Byte) : Byte := irqst ||| ~~~v

/-- `irq_line`: some enabled source requests (44_pokey_registers R335). -/
def irqLine (p : Pokey) : Bool := (~~~p.irqst &&& p.irqen) != 0

/-- SKSTAT of a key press: bit 2 low, bit 3 low when shift is held (44_pokey_registers R332). -/
def skstatPress (skstat : Byte) (shift : Bool) : Byte := withBit (withBit skstat 2 false) 3 (!shift)

/-- SKSTAT of a key release: bits 2 and 3 high (44_pokey_registers R332). -/
def skstatRelease (skstat : Byte) : Byte := withBit (withBit skstat 2 true) 3 true

/-- KBCODE of a mapped key: code, shift in bit 6, control in bit 7 (44_pokey_registers R332). -/
def kbcodeOf (code : BitVec 6) (shift ctl : Bool) : Byte := BitVec.ofBool ctl ++ BitVec.ofBool shift ++ code

/-- The IRQST and IRQEN bit of an environment event's source (10_state R45). -/
def IrqSource.bit : IrqSource → Nat
  | .timer1 => 0
  | .timer2 => 1
  | .timer4 => 2
  | .serialOutDone => 3
  | .serialOutNeeded => 4
  | .serialIn => 5
  | .breakKey => 7

/-- The keyboard's IRQST and IRQEN bit (10_state R45). -/
def keyboardBit : Nat := 6

end Sys2Proof.Machine
end

