-- ==== Sys2Proof/Machine/AnticRegs.lean ====
section
/-! DEFINITION. The ANTIC registers (42_antic_registers): every write is stored at once (R228). -/

namespace Sys2Proof.Machine

/-- DMACTL is stored (R210). -/
def execWDmactl (_addr : Word) (v : Byte) (s : State) : Res :=
  .next (s.setAntic { s.antic with dmactl := v })

/-- CHACTL is stored (R211). -/
def execWChactl (_addr : Word) (v : Byte) (s : State) : Res :=
  .next (s.setAntic { s.antic with chactl := v })

/-- The low byte of the display-list pointer (R212). -/
def execWDlistl (_addr : Word) (v : Byte) (s : State) : Res :=
  .next (s.setAntic { s.antic with dlist := lo16 (highByte s.antic.dlist) v })

/-- The high byte of the display-list pointer (R213). -/
def execWDlisth (_addr : Word) (v : Byte) (s : State) : Res :=
  .next (s.setAntic { s.antic with dlist := lo16 v (lowByte s.antic.dlist) })

/-- HSCROL is stored (R214). -/
def execWHscrol (_addr : Word) (v : Byte) (s : State) : Res :=
  .next (s.setAntic { s.antic with hscrol := v })

/-- VSCROL is stored (R215). -/
def execWVscrol (_addr : Word) (v : Byte) (s : State) : Res :=
  .next (s.setAntic { s.antic with vscrol := v })

/-- An offset that selects no register: no state changes (R226). -/
def execWAnticUnused6 (_addr : Word) (_v : Byte) (s : State) : Res :=
  .next s

/-- PMBASE is stored (R216). -/
def execWPmbase (_addr : Word) (v : Byte) (s : State) : Res :=
  .next (s.setAntic { s.antic with pmbase := v })

/-- An offset that selects no register: no state changes (R226). -/
def execWAnticUnused8 (_addr : Word) (_v : Byte) (s : State) : Res :=
  .next s

/-- CHBASE is stored (R217). -/
def execWChbase (_addr : Word) (v : Byte) (s : State) : Res :=
  .next (s.setAntic { s.antic with chbase := v })

/-- WSYNC asks for the stall, whatever the value (R218). -/
def execWWsync (_addr : Word) (_v : Byte) (s : State) : Res :=
  .next (s.setAntic { s.antic with wsyncPending := true })

/-- An offset that selects no register: no state changes (R226). -/
def execWAnticUnusedb (_addr : Word) (_v : Byte) (s : State) : Res :=
  .next s

/-- An offset that selects no register: no state changes (R226). -/
def execWAnticUnusedc (_addr : Word) (_v : Byte) (s : State) : Res :=
  .next s

/-- An offset that selects no register: no state changes (R226). -/
def execWAnticUnusedd (_addr : Word) (_v : Byte) (s : State) : Res :=
  .next s

/-- NMIEN is stored (R219). -/
def execWNmien (_addr : Word) (v : Byte) (s : State) : Res :=
  .next (s.setAntic { s.antic with nmien := v })

/-- NMIRES clears NMIST, whatever the value, and cancels no latched request (R220). -/
def execWNmires (_addr : Word) (_v : Byte) (s : State) : Res :=
  .next (s.setAntic { s.antic with nmist := 0 })

/-- A write-only offset reads open bus (R222). -/
def execRAntic0Ff (_addr : Word) (s : State) : Res :=
  .next (driveOpenBus s)

/-- A write-only offset reads open bus (R222). -/
def execRAntic1Ff (_addr : Word) (s : State) : Res :=
  .next (driveOpenBus s)

/-- A write-only offset reads open bus (R222). -/
def execRAntic2Ff (_addr : Word) (s : State) : Res :=
  .next (driveOpenBus s)

/-- A write-only offset reads open bus (R222). -/
def execRAntic3Ff (_addr : Word) (s : State) : Res :=
  .next (driveOpenBus s)

/-- A write-only offset reads open bus (R222). -/
def execRAntic4Ff (_addr : Word) (s : State) : Res :=
  .next (driveOpenBus s)

/-- A write-only offset reads open bus (R222). -/
def execRAntic5Ff (_addr : Word) (s : State) : Res :=
  .next (driveOpenBus s)

/-- A write-only offset reads open bus (R222). -/
def execRAntic6Ff (_addr : Word) (s : State) : Res :=
  .next (driveOpenBus s)

/-- A write-only offset reads open bus (R222). -/
def execRAntic7Ff (_addr : Word) (s : State) : Res :=
  .next (driveOpenBus s)

/-- A write-only offset reads open bus (R222). -/
def execRAntic8Ff (_addr : Word) (s : State) : Res :=
  .next (driveOpenBus s)

/-- A write-only offset reads open bus (R222). -/
def execRAntic9Ff (_addr : Word) (s : State) : Res :=
  .next (driveOpenBus s)

/-- A write-only offset reads open bus (R222). -/
def execRAnticaFf (_addr : Word) (s : State) : Res :=
  .next (driveOpenBus s)

/-- VCOUNT (R223). -/
def execRVcount (_addr : Word) (s : State) : Res :=
  .next (driveData (vcount s.antic.scanLine s.antic.cycle) s)

/-- PENH is a draw (R224). -/
def execRPenh (_addr : Word) (s : State) : Res :=
  .next (driveDraw s)

/-- PENV is a draw (R225). -/
def execRPenv (_addr : Word) (s : State) : Res :=
  .next (driveDraw s)

/-- A write-only offset reads open bus (R222). -/
def execRAnticeFf (_addr : Word) (s : State) : Res :=
  .next (driveOpenBus s)

/-- NMIST (R221). -/
def execRNmist (_addr : Word) (s : State) : Res :=
  .next (driveData (nmistRead s.antic) s)

end Sys2Proof.Machine
end

