-- ==== Sys2Proof/Machine/Operands.lean ====
section
/-! DEFINITION. The operand forms of the display-list instructions and the pieces the display modes share
(41_antic_display_list section 2). -/

namespace Sys2Proof.Machine

/-- The display modes 2..15 (30_encoding R101). -/
inductive DisplayMode where
  | m2
  | m3
  | m4
  | m5
  | m6
  | m7
  | m8
  | m9
  | mA
  | mB
  | mC
  | mD
  | mE
  | mF
  deriving DecidableEq, Repr

/-- What a mode fetches: character names, or pixels (41_antic_display_list R177). -/
inductive ModeKind where
  | character
  | map
  deriving DecidableEq, Repr

/-- The mode nibble (30_encoding R100). -/
def DisplayMode.nibble : DisplayMode → BitVec 4
  | .m2 => 2
  | .m3 => 3
  | .m4 => 4
  | .m5 => 5
  | .m6 => 6
  | .m7 => 7
  | .m8 => 8
  | .m9 => 9
  | .mA => 10
  | .mB => 11
  | .mC => 12
  | .mD => 13
  | .mE => 14
  | .mF => 15

/-- `mode_lines(m)` (41_antic_display_list R177). -/
def DisplayMode.lines : DisplayMode → Nat
  | .m2 => 8
  | .m3 => 10
  | .m4 => 8
  | .m5 => 16
  | .m6 => 8
  | .m7 => 16
  | .m8 => 8
  | .m9 => 4
  | .mA => 4
  | .mB => 2
  | .mC => 1
  | .mD => 2
  | .mE => 1
  | .mF => 1

/-- `base_bytes(m)` (41_antic_display_list R177). -/
def DisplayMode.baseBytes : DisplayMode → Nat
  | .m2 => 40
  | .m3 => 40
  | .m4 => 40
  | .m5 => 40
  | .m6 => 20
  | .m7 => 20
  | .m8 => 10
  | .m9 => 10
  | .mA => 20
  | .mB => 20
  | .mC => 20
  | .mD => 40
  | .mE => 40
  | .mF => 40

/-- The kind column of the mode table, which only the renderer reads (41_antic_display_list R177). -/
def DisplayMode.kind : DisplayMode → ModeKind
  | .m2 => .character
  | .m3 => .character
  | .m4 => .character
  | .m5 => .character
  | .m6 => .character
  | .m7 => .character
  | .m8 => .map
  | .m9 => .map
  | .mA => .map
  | .mB => .map
  | .mC => .map
  | .mD => .map
  | .mE => .map
  | .mF => .map

/-- `PF_WIDTH`, bits 1:0 of DMACTL (10_state R25). -/
def pfWidth (dmactl : Byte) : Nat := (dmactl.extractLsb' 0 2).toNat

/-- `pf_pixels(w)` (41_antic_display_list R178). -/
def pfPixels (w : Nat) : Nat :=
  match w with
  | 0 => 0
  | 1 => 256
  | 2 => 320
  | _ => 384

/-- The fetch width: HSCROL fetches the next wider playfield, wide stays wide (41_antic_display_list R178). -/
def fetchWidth (w : Nat) (hs : Bool) : Nat := if hs then min (w + 1) 3 else w

/-- `n_bytes(m, w, hs)` (41_antic_display_list R178). -/
def nBytes (m : DisplayMode) (w : Nat) (hs : Bool) : Nat :=
  if w = 0 then 0
  else match fetchWidth w hs with
    | 1 => m.baseBytes * 4 / 5
    | 2 => m.baseBytes
    | _ => m.baseBytes * 6 / 5

/-- The four bits of a scroll register that any rule uses (10_state R28). -/
def scrollBits (v : Byte) : BitVec 4 := v.extractLsb' 0 4

/-- `vscroll_height(H, vs)`: the height and the vertical offset of a mode line, from whether the last display mode line
had VSCROL on (41_antic_display_list R183). `(H + 15 - v) % 16` is the 4-bit wrap of `H - 1 - v`. -/
def vscrollHeight (lines : Nat) (vs active : Bool) (v : BitVec 4) : Nat × BitVec 4 :=
  match vs, active with
  | true, false => ((lines + 15 - v.toNat) % 16 + 1, v)
  | false, true => (v.toNat + 1, 0)
  | true, true => (lines, 0)
  | false, false => (lines, 0)

/-- `advance_video(vm, n)`: a 12-bit counter under fixed bits 15:12 (41_antic_display_list R185). -/
def advanceVideo (vm : Word) (n : Nat) : Word :=
  (vm &&& 0xf000) ||| ((vm + BitVec.ofNat 16 n) &&& 0x0fff)

/-- `set_next_scan_line()`: the sum, or 8 when it leaves the visible lines (41_antic_display_list R188). -/
def nextLine (start height : Nat) : Nat := if start + height < 248 then start + height else 8

/-- `v << 8`: a base register as an address (41_antic_display_list R186). -/
def baseAddress (v : Byte) : Word := v ++ (0 : Byte)

/-- The descriptor of a line that fetches no playfield, from ANTIC as the instruction leaves it: mode and options are
those of `ir`, the height its `lineHeight` (41_antic_display_list R187). -/
def emptyDescr (a : Antic) : ModeLineDescr where
  mode := a.ir.extractLsb' 0 4
  opts := a.ir.extractLsb' 4 4
  width := pfPixels (pfWidth a.dmactl)
  height := a.lineHeight
  nBytes := 0
  voffset := 0
  videoOffset := a.videoMemory
  charsetBase := baseAddress a.chbase
  pmBase := baseAddress a.pmbase
  hscrol := 0

/-- The tick emits `d` (40_antic_timing R134). -/
def emitDescr (d : ModeLineDescr) (s : State) : State := s.setOut { s.out with descr := some d }

/-- A line that fetches no playfield: `ir`, the height and the next scan line are set, `voffset` is 0, and the
descriptor is `emptyDescr` (41_antic_display_list R172 to R175, R204). -/
def emptyLine (ir : Byte) (height next : Nat) (dlist : Word) (s : State) : State :=
  let a := { s.antic with ir := ir, lineHeight := height, voffset := 0, dlist := dlist, nextScanLine := next }
  emitDescr (emptyDescr a) (s.setAntic a)

/-- The video-memory pointer an instruction starts from: the LMS operand or the pointer left (41_antic_display_list R181). -/
def lmsPointer (lms : Option Word) (videoMemory : Word) : Word := lms.getD videoMemory

/-- The pointer after a display mode line (41_antic_display_list R182). -/
def dlistAfter (lms : Option Word) (dlist : Word) : Word := dlistOffset dlist (if lms.isSome then 3 else 1)

/-- The descriptor of a display mode line of ANTIC before it (41_antic_display_list R176). -/
def modeDescr (m : DisplayMode) (dli : Bool) (lms : Option Word) (vs hs : Bool) (a : Antic) : ModeLineDescr where
  mode := m.nibble
  opts := (modeByte m.nibble dli lms.isSome vs hs).extractLsb' 4 4
  width := pfPixels (pfWidth a.dmactl)
  height := (vscrollHeight m.lines vs a.vscrolActive (scrollBits a.vscrol)).1
  nBytes := nBytes m (pfWidth a.dmactl) hs
  voffset := (vscrollHeight m.lines vs a.vscrolActive (scrollBits a.vscrol)).2
  videoOffset := lmsPointer lms a.videoMemory
  charsetBase := baseAddress a.chbase
  pmBase := baseAddress a.pmbase
  hscrol := if hs then scrollBits a.hscrol else 0

/-- ANTIC after a display mode line (41_antic_display_list R176). -/
def modeAntic (m : DisplayMode) (dli : Bool) (lms : Option Word) (vs hs : Bool) (a : Antic) : Antic :=
  let h := vscrollHeight m.lines vs a.vscrolActive (scrollBits a.vscrol)
  { a with
    ir := modeByte m.nibble dli lms.isSome vs hs
    dlist := dlistAfter lms a.dlist
    lineHeight := h.1
    voffset := h.2
    vscrolActive := vs
    videoMemory := advanceVideo (lmsPointer lms a.videoMemory) (nBytes m (pfWidth a.dmactl) hs)
    nextScanLine := nextLine a.startScanLine h.1 }

/-- `display_mode_line(m, b0, b1, b2)` (41_antic_display_list R176). -/
def displayModeLine (m : DisplayMode) (dli : Bool) (lms : Option Word) (vs hs : Bool) (s : State) : State :=
  emitDescr (modeDescr m dli lms vs hs s.antic) (s.setAntic (modeAntic m dli lms vs hs s.antic))

end Sys2Proof.Machine
end

