-- ==== Sys2Proof/Machine/DisplayList.lean ====
section
/-! DEFINITION. The display-list instructions (41_antic_display_list). Each runs at a mode-line start, with `startScanLine` already
set to the scan line (R170), and emits its descriptor. -/

namespace Sys2Proof.Machine


/-- BLANK: `count + 1` blank scan lines (R172). -/
def execBlank (dli : Bool) (count : BitVec 3) (s : State) : Res :=
  .next (emptyLine (blankByte dli count) (count.toNat + 1) (nextLine s.antic.startScanLine (count.toNat + 1))
    (dlistOffset s.antic.dlist 1) s)

/-- JMP: reloads the display-list pointer, one line without DMA (R173). -/
def execJmp (dli : Bool) (ignored : BitVec 2) (target : Word) (s : State) : Res :=
  .next (emptyLine (jumpByte dli false ignored) 1 (nextLine s.antic.startScanLine 1) target s)

/-- JVB: as JMP, and no mode line starts before line 8 of the next frame (R174, R175). -/
def execJvb (dli : Bool) (ignored : BitVec 2) (target : Word) (s : State) : Res :=
  .next (emptyLine (jumpByte dli true ignored) 1 8 target s)

/-- MODE2 (R190). -/
def execMode2 (dli : Bool) (lms : Option Word) (vs hs : Bool) (s : State) : Res :=
  .next (displayModeLine .m2 dli lms vs hs s)

/-- MODE3 (R191). -/
def execMode3 (dli : Bool) (lms : Option Word) (vs hs : Bool) (s : State) : Res :=
  .next (displayModeLine .m3 dli lms vs hs s)

/-- MODE4 (R192). -/
def execMode4 (dli : Bool) (lms : Option Word) (vs hs : Bool) (s : State) : Res :=
  .next (displayModeLine .m4 dli lms vs hs s)

/-- MODE5 (R193). -/
def execMode5 (dli : Bool) (lms : Option Word) (vs hs : Bool) (s : State) : Res :=
  .next (displayModeLine .m5 dli lms vs hs s)

/-- MODE6 (R194). -/
def execMode6 (dli : Bool) (lms : Option Word) (vs hs : Bool) (s : State) : Res :=
  .next (displayModeLine .m6 dli lms vs hs s)

/-- MODE7 (R195). -/
def execMode7 (dli : Bool) (lms : Option Word) (vs hs : Bool) (s : State) : Res :=
  .next (displayModeLine .m7 dli lms vs hs s)

/-- MODE8 (R196). -/
def execMode8 (dli : Bool) (lms : Option Word) (vs hs : Bool) (s : State) : Res :=
  .next (displayModeLine .m8 dli lms vs hs s)

/-- MODE9 (R197). -/
def execMode9 (dli : Bool) (lms : Option Word) (vs hs : Bool) (s : State) : Res :=
  .next (displayModeLine .m9 dli lms vs hs s)

/-- MODEA (R198). -/
def execModeA (dli : Bool) (lms : Option Word) (vs hs : Bool) (s : State) : Res :=
  .next (displayModeLine .mA dli lms vs hs s)

/-- MODEB (R199). -/
def execModeB (dli : Bool) (lms : Option Word) (vs hs : Bool) (s : State) : Res :=
  .next (displayModeLine .mB dli lms vs hs s)

/-- MODEC (R200). -/
def execModeC (dli : Bool) (lms : Option Word) (vs hs : Bool) (s : State) : Res :=
  .next (displayModeLine .mC dli lms vs hs s)

/-- MODED (R201). -/
def execModeD (dli : Bool) (lms : Option Word) (vs hs : Bool) (s : State) : Res :=
  .next (displayModeLine .mD dli lms vs hs s)

/-- MODEE (R202). -/
def execModeE (dli : Bool) (lms : Option Word) (vs hs : Bool) (s : State) : Res :=
  .next (displayModeLine .mE dli lms vs hs s)

/-- MODEF (R203). -/
def execModeF (dli : Bool) (lms : Option Word) (vs hs : Bool) (s : State) : Res :=
  .next (displayModeLine .mF dli lms vs hs s)

end Sys2Proof.Machine
end

