-- ==== Sys2Proof/Machine/GtiaRegs.lean ====
section
/-! DEFINITION. The GTIA registers (43_gtia). Every write stores the raw byte first (R240). -/

namespace Sys2Proof.Machine

/-- The raw store of every GTIA write (R240). -/
def gtiaStore (o : Fin 32) (v : Byte) (s : State) : State := s.setGtia { s.gtia with regs := s.gtia.regs.set o v }

/-- The raw store at offset `o` and the copy of player `p`'s graphics (R254 to R257). -/
def playerStore (o : Fin 32) (p : Fin 4) (v : Byte) (s : State) : State :=
  s.setGtia { s.gtia with regs := s.gtia.regs.set o v, playerGraphics := s.gtia.playerGraphics.set p v }

/-- A collision read: `collisions[i]` (43_gtia section 3). -/
def driveCollision (i : Fin 16) (s : State) : State := driveData s.gtia.collisions[i] s

/-- A trigger read: the latch in bit 0, bits 7:1 zero (R289). -/
def driveTrigger (i : Fin 4) (s : State) : State := driveData (s.gtia.trig[i].setWidth 8) s

/-- HPOSP0: raw store, and the filtered copy when the value is accepted (R241). -/
def execWHposp0 (_addr : Word) (v : Byte) (s : State) : Res :=
  .next (s.setGtia { s.gtia with
    regs := s.gtia.regs.set 0x00 v
    hposp0Filtered := if Config.hposp0Accept v then v else s.gtia.hposp0Filtered })

/-- HPOSP1: raw store only (R242). -/
def execWHposp1 (_addr : Word) (v : Byte) (s : State) : Res :=
  .next (gtiaStore 0x01 v s)

/-- HPOSP2: raw store only (R243). -/
def execWHposp2 (_addr : Word) (v : Byte) (s : State) : Res :=
  .next (gtiaStore 0x02 v s)

/-- HPOSP3: raw store only (R244). -/
def execWHposp3 (_addr : Word) (v : Byte) (s : State) : Res :=
  .next (gtiaStore 0x03 v s)

/-- HPOSM0: raw store only (R245). -/
def execWHposm0 (_addr : Word) (v : Byte) (s : State) : Res :=
  .next (gtiaStore 0x04 v s)

/-- HPOSM1: raw store only (R246). -/
def execWHposm1 (_addr : Word) (v : Byte) (s : State) : Res :=
  .next (gtiaStore 0x05 v s)

/-- HPOSM2: raw store only (R247). -/
def execWHposm2 (_addr : Word) (v : Byte) (s : State) : Res :=
  .next (gtiaStore 0x06 v s)

/-- HPOSM3: raw store only (R248). -/
def execWHposm3 (_addr : Word) (v : Byte) (s : State) : Res :=
  .next (gtiaStore 0x07 v s)

/-- SIZEP0: raw store only (R249). -/
def execWSizep0 (_addr : Word) (v : Byte) (s : State) : Res :=
  .next (gtiaStore 0x08 v s)

/-- SIZEP1: raw store only (R250). -/
def execWSizep1 (_addr : Word) (v : Byte) (s : State) : Res :=
  .next (gtiaStore 0x09 v s)

/-- SIZEP2: raw store only (R251). -/
def execWSizep2 (_addr : Word) (v : Byte) (s : State) : Res :=
  .next (gtiaStore 0x0a v s)

/-- SIZEP3: raw store only (R252). -/
def execWSizep3 (_addr : Word) (v : Byte) (s : State) : Res :=
  .next (gtiaStore 0x0b v s)

/-- SIZEM: raw store only (R253). -/
def execWSizem (_addr : Word) (v : Byte) (s : State) : Res :=
  .next (gtiaStore 0x0c v s)

/-- GRAFP0: raw store and the player graphics copy (R254). -/
def execWGrafp0 (_addr : Word) (v : Byte) (s : State) : Res :=
  .next (playerStore 0x0d 0 v s)

/-- GRAFP1: raw store and the player graphics copy (R255). -/
def execWGrafp1 (_addr : Word) (v : Byte) (s : State) : Res :=
  .next (playerStore 0x0e 1 v s)

/-- GRAFP2: raw store and the player graphics copy (R256). -/
def execWGrafp2 (_addr : Word) (v : Byte) (s : State) : Res :=
  .next (playerStore 0x0f 2 v s)

/-- GRAFP3: raw store and the player graphics copy (R257). -/
def execWGrafp3 (_addr : Word) (v : Byte) (s : State) : Res :=
  .next (playerStore 0x10 3 v s)

/-- GRAFM: raw store and the missile graphics copy (R258). -/
def execWGrafm (_addr : Word) (v : Byte) (s : State) : Res :=
  .next (s.setGtia { s.gtia with regs := s.gtia.regs.set 0x11 v, missileGraphics := v })

/-- COLPM0: raw store only (R259). -/
def execWColpm0 (_addr : Word) (v : Byte) (s : State) : Res :=
  .next (gtiaStore 0x12 v s)

/-- COLPM1: raw store only (R260). -/
def execWColpm1 (_addr : Word) (v : Byte) (s : State) : Res :=
  .next (gtiaStore 0x13 v s)

/-- COLPM2: raw store only (R261). -/
def execWColpm2 (_addr : Word) (v : Byte) (s : State) : Res :=
  .next (gtiaStore 0x14 v s)

/-- COLPM3: raw store only (R262). -/
def execWColpm3 (_addr : Word) (v : Byte) (s : State) : Res :=
  .next (gtiaStore 0x15 v s)

/-- COLPF0: raw store only (R263). -/
def execWColpf0 (_addr : Word) (v : Byte) (s : State) : Res :=
  .next (gtiaStore 0x16 v s)

/-- COLPF1: raw store only (R264). -/
def execWColpf1 (_addr : Word) (v : Byte) (s : State) : Res :=
  .next (gtiaStore 0x17 v s)

/-- COLPF2: raw store only (R265). -/
def execWColpf2 (_addr : Word) (v : Byte) (s : State) : Res :=
  .next (gtiaStore 0x18 v s)

/-- COLPF3: raw store only (R266). -/
def execWColpf3 (_addr : Word) (v : Byte) (s : State) : Res :=
  .next (gtiaStore 0x19 v s)

/-- COLBK: raw store only (R267). -/
def execWColbk (_addr : Word) (v : Byte) (s : State) : Res :=
  .next (gtiaStore 0x1a v s)

/-- PRIOR: raw store and the priority latch (R268). -/
def execWPrior (_addr : Word) (v : Byte) (s : State) : Res :=
  .next (s.setGtia { s.gtia with regs := s.gtia.regs.set 0x1b v, prior := v })

/-- VDELAY: raw store only (R269). -/
def execWVdelay (_addr : Word) (v : Byte) (s : State) : Res :=
  .next (gtiaStore 0x1c v s)

/-- GRACTL: raw store only (R270). -/
def execWGractl (_addr : Word) (v : Byte) (s : State) : Res :=
  .next (gtiaStore 0x1d v s)

/-- HITCLR: raw store, and every collision register is cleared (R271). -/
def execWHitclr (_addr : Word) (v : Byte) (s : State) : Res :=
  .next (s.setGtia { s.gtia with regs := s.gtia.regs.set 0x1e v, collisions := Vector.replicate 16 0 })

/-- CONSOL: raw store only (R272). -/
def execWConsolW (_addr : Word) (v : Byte) (s : State) : Res :=
  .next (gtiaStore 0x1f v s)

/-- M0PF (R273). -/
def execRM0pf (_addr : Word) (s : State) : Res :=
  .next (driveCollision 0 s)

/-- M1PF (R274). -/
def execRM1pf (_addr : Word) (s : State) : Res :=
  .next (driveCollision 1 s)

/-- M2PF (R275). -/
def execRM2pf (_addr : Word) (s : State) : Res :=
  .next (driveCollision 2 s)

/-- M3PF (R276). -/
def execRM3pf (_addr : Word) (s : State) : Res :=
  .next (driveCollision 3 s)

/-- P0PF (R277). -/
def execRP0pf (_addr : Word) (s : State) : Res :=
  .next (driveCollision 4 s)

/-- P1PF (R278). -/
def execRP1pf (_addr : Word) (s : State) : Res :=
  .next (driveCollision 5 s)

/-- P2PF is hard-wired to 0xff (R279). -/
def execRP2pf (_addr : Word) (s : State) : Res :=
  .next (driveData 0xff s)

/-- P3PF is hard-wired to 0xff (R280). -/
def execRP3pf (_addr : Word) (s : State) : Res :=
  .next (driveData 0xff s)

/-- M0PL (R281). -/
def execRM0pl (_addr : Word) (s : State) : Res :=
  .next (driveCollision 8 s)

/-- M1PL (R282). -/
def execRM1pl (_addr : Word) (s : State) : Res :=
  .next (driveCollision 9 s)

/-- M2PL (R283). -/
def execRM2pl (_addr : Word) (s : State) : Res :=
  .next (driveCollision 10 s)

/-- M3PL (R284). -/
def execRM3pl (_addr : Word) (s : State) : Res :=
  .next (driveCollision 11 s)

/-- P0PL (R285). -/
def execRP0pl (_addr : Word) (s : State) : Res :=
  .next (driveCollision 12 s)

/-- P1PL (R286). -/
def execRP1pl (_addr : Word) (s : State) : Res :=
  .next (driveCollision 13 s)

/-- P2PL (R287). -/
def execRP2pl (_addr : Word) (s : State) : Res :=
  .next (driveCollision 14 s)

/-- P3PL (R288). -/
def execRP3pl (_addr : Word) (s : State) : Res :=
  .next (driveCollision 15 s)

/-- TRIG0 (R289). -/
def execRTrig0 (_addr : Word) (s : State) : Res :=
  .next (driveTrigger 0 s)

/-- TRIG1 (R290). -/
def execRTrig1 (_addr : Word) (s : State) : Res :=
  .next (driveTrigger 1 s)

/-- TRIG2 (R291). -/
def execRTrig2 (_addr : Word) (s : State) : Res :=
  .next (driveTrigger 2 s)

/-- TRIG3 (R292). -/
def execRTrig3 (_addr : Word) (s : State) : Res :=
  .next (driveTrigger 3 s)

/-- PAL reads the PAL-machine value (R293). -/
def execRPal (_addr : Word) (s : State) : Res :=
  .next (driveData 0x01 s)

/-- An offset without a readable register reads open bus (R294). -/
def execRGtia15Ff (_addr : Word) (s : State) : Res :=
  .next (driveOpenBus s)

/-- An offset without a readable register reads open bus (R294). -/
def execRGtia16Ff (_addr : Word) (s : State) : Res :=
  .next (driveOpenBus s)

/-- An offset without a readable register reads open bus (R294). -/
def execRGtia17Ff (_addr : Word) (s : State) : Res :=
  .next (driveOpenBus s)

/-- An offset without a readable register reads open bus (R294). -/
def execRGtia18Ff (_addr : Word) (s : State) : Res :=
  .next (driveOpenBus s)

/-- An offset without a readable register reads open bus (R294). -/
def execRGtia19Ff (_addr : Word) (s : State) : Res :=
  .next (driveOpenBus s)

/-- An offset without a readable register reads open bus (R294). -/
def execRGtia1aFf (_addr : Word) (s : State) : Res :=
  .next (driveOpenBus s)

/-- An offset without a readable register reads open bus (R294). -/
def execRGtia1bFf (_addr : Word) (s : State) : Res :=
  .next (driveOpenBus s)

/-- An offset without a readable register reads open bus (R294). -/
def execRGtia1cFf (_addr : Word) (s : State) : Res :=
  .next (driveOpenBus s)

/-- An offset without a readable register reads open bus (R294). -/
def execRGtia1dFf (_addr : Word) (s : State) : Res :=
  .next (driveOpenBus s)

/-- An offset without a readable register reads open bus (R294). -/
def execRGtia1eFf (_addr : Word) (s : State) : Res :=
  .next (driveOpenBus s)

/-- CONSOL reads a constant (R295). -/
def execRConsol (_addr : Word) (s : State) : Res :=
  .next (driveData 0x0f s)

end Sys2Proof.Machine
end

