-- ==== Sys2Proof/Machine/OpenPages.lean ====
section
/-! DEFINITION. The pages without a chip and the cartridge page (20_memory R75, R76). -/

namespace Sys2Proof.Machine

/-- Page 0xd1: the write is ignored (R76). -/
def execWUnmappedD1 (_addr : Word) (_v : Byte) (s : State) : Res :=
  .next s

/-- Page 0xd1: open bus (R75). -/
def execRUnmappedD1 (_addr : Word) (s : State) : Res :=
  .next (driveOpenBus s)

/-- Page 0xd6: the write is ignored (R76). -/
def execWUnmappedD6 (_addr : Word) (_v : Byte) (s : State) : Res :=
  .next s

/-- Page 0xd6: open bus (R75). -/
def execRUnmappedD6 (_addr : Word) (s : State) : Res :=
  .next (driveOpenBus s)

/-- Page 0xd7: the write is ignored (R76). -/
def execWUnmappedD7 (_addr : Word) (_v : Byte) (s : State) : Res :=
  .next s

/-- Page 0xd7: open bus (R75). -/
def execRUnmappedD7 (_addr : Word) (s : State) : Res :=
  .next (driveOpenBus s)

/-- Page 0xd5: the cartridge's own write where one is present, else nothing (R76). -/
def execWCartctl (addr : Word) (v : Byte) (s : State) : Res :=
  .next (s.setCart (if Config.cartPresent then Config.cartWrite s.cart addr v else s.cart))

/-- Page 0xd5: the cartridge's own read where one is present, else open bus (R75). -/
def execRCartctl (addr : Word) (s : State) : Res :=
  .next (driveData (if Config.cartPresent then Config.cartRead s.cart addr else 0xff) s)

end Sys2Proof.Machine
end

