-- ==== Sys2Proof/Machine/PiaRegs.lean ====
section
/-! DEFINITION. The PIA registers (46_pia_and_inputs). The bank recompute after a write (R379) is `resolve` itself, which every access
evaluates anew. -/

namespace Sys2Proof.Machine

/-- Bit 2 of a control register: the port address reaches the latch (1) or the DDR (0) (10_state R50). -/
def selectsLatch (ctl : Byte) : Bool := ctl.getLsbD 2

/-- The byte PORTA reads as (R374). -/
def portaRead (s : State) : Byte :=
  if selectsLatch s.pia.pactl then (portaIn s &&& ~~~s.pia.portaDdr) ||| (s.pia.portaOut &&& s.pia.portaDdr)
  else s.pia.portaDdr

/-- The byte PORTB reads as (R375). -/
def portbRead (p : Pia) : Byte := if selectsLatch p.pbctl then portbEff p else p.portbDdr

/-- PORTA: the latch or the DDR (R370). -/
def execWPorta (_addr : Word) (v : Byte) (s : State) : Res :=
  .next (s.setPia (if selectsLatch s.pia.pactl then { s.pia with portaOut := v } else { s.pia with portaDdr := v }))

/-- PORTA (R374). -/
def execRPorta (_addr : Word) (s : State) : Res :=
  .next (driveData (portaRead s) s)

/-- PORTB: the latch or the DDR (R371). -/
def execWPortb (_addr : Word) (v : Byte) (s : State) : Res :=
  .next (s.setPia (if selectsLatch s.pia.pbctl then { s.pia with portbOut := v } else { s.pia with portbDdr := v }))

/-- PORTB (R375). -/
def execRPortb (_addr : Word) (s : State) : Res :=
  .next (driveData (portbRead s.pia) s)

/-- PACTL: bits 5:0 are stored (R372). -/
def execWPactl (_addr : Word) (v : Byte) (s : State) : Res :=
  .next (s.setPia { s.pia with pactl := v &&& 0x3f })

/-- PACTL (R376). -/
def execRPactl (_addr : Word) (s : State) : Res :=
  .next (driveData (s.pia.pactl &&& 0x3f) s)

/-- PBCTL: bits 5:0 are stored (R373). -/
def execWPbctl (_addr : Word) (v : Byte) (s : State) : Res :=
  .next (s.setPia { s.pia with pbctl := v &&& 0x3f })

/-- PBCTL (R377). -/
def execRPbctl (_addr : Word) (s : State) : Res :=
  .next (driveData (s.pia.pbctl &&& 0x3f) s)

end Sys2Proof.Machine
end

