-- ==== Sys2Proof/Machine/PokeyRegs.lean ====
section
/-! DEFINITION. The POKEY registers (44_pokey_registers). -/

namespace Sys2Proof.Machine

/-- An audio-register write: appended to the queue with the total-cycle timestamp, nothing else changes (R300). -/
def queueAudio (r : Fin 9) (v : Byte) (s : State) : State :=
  s.setPokey { s.pokey with audioQueue := s.pokey.audioQueue ++ [{ timestamp := s.antic.totalCycles, reg := r, value := v }] }

/-- AUDF1 is queued (R301). -/
def execWAudf1 (_addr : Word) (v : Byte) (s : State) : Res :=
  .next (queueAudio 0 v s)

/-- AUDC1 is queued (R302). -/
def execWAudc1 (_addr : Word) (v : Byte) (s : State) : Res :=
  .next (queueAudio 1 v s)

/-- AUDF2 is queued (R303). -/
def execWAudf2 (_addr : Word) (v : Byte) (s : State) : Res :=
  .next (queueAudio 2 v s)

/-- AUDC2 is queued (R304). -/
def execWAudc2 (_addr : Word) (v : Byte) (s : State) : Res :=
  .next (queueAudio 3 v s)

/-- AUDF3 is queued (R305). -/
def execWAudf3 (_addr : Word) (v : Byte) (s : State) : Res :=
  .next (queueAudio 4 v s)

/-- AUDC3 is queued (R306). -/
def execWAudc3 (_addr : Word) (v : Byte) (s : State) : Res :=
  .next (queueAudio 5 v s)

/-- AUDF4 is queued (R307). -/
def execWAudf4 (_addr : Word) (v : Byte) (s : State) : Res :=
  .next (queueAudio 6 v s)

/-- AUDC4 is queued (R308). -/
def execWAudc4 (_addr : Word) (v : Byte) (s : State) : Res :=
  .next (queueAudio 7 v s)

/-- AUDCTL is queued (R309). -/
def execWAudctl (_addr : Word) (v : Byte) (s : State) : Res :=
  .next (queueAudio 8 v s)

/-- STIMER is stored only (R310). -/
def execWStimer (_addr : Word) (v : Byte) (s : State) : Res :=
  .next (s.setPokey { s.pokey with stimer := v })

/-- SKRES is stored only (R311). -/
def execWSkres (_addr : Word) (v : Byte) (s : State) : Res :=
  .next (s.setPokey { s.pokey with skres := v })

/-- POTGO is stored only (R312). -/
def execWPotgo (_addr : Word) (v : Byte) (s : State) : Res :=
  .next (s.setPokey { s.pokey with potgo := v })

/-- An offset that selects no register: no state changes (R316). -/
def execWPokeyUnusedc (_addr : Word) (_v : Byte) (s : State) : Res :=
  .next s

/-- SEROUT is stored only (R313). -/
def execWSerout (_addr : Word) (v : Byte) (s : State) : Res :=
  .next (s.setPokey { s.pokey with serout := v })

/-- IRQEN is stored, and every source it does not enable reads no request (R314). -/
def execWIrqen (_addr : Word) (v : Byte) (s : State) : Res :=
  .next (s.setPokey { s.pokey with irqen := v, irqst := ackIrqst s.pokey.irqst v })

/-- SKCTL is stored only (R315). -/
def execWSkctl (_addr : Word) (v : Byte) (s : State) : Res :=
  .next (s.setPokey { s.pokey with skctl := v })

/-- POT0 is a draw (R317). -/
def execRPot0 (_addr : Word) (s : State) : Res :=
  .next (driveDraw s)

/-- POT1 is a draw (R318). -/
def execRPot1 (_addr : Word) (s : State) : Res :=
  .next (driveDraw s)

/-- POT2 is a draw (R319). -/
def execRPot2 (_addr : Word) (s : State) : Res :=
  .next (driveDraw s)

/-- POT3 is a draw (R320). -/
def execRPot3 (_addr : Word) (s : State) : Res :=
  .next (driveDraw s)

/-- POT4 is a draw (R321). -/
def execRPot4 (_addr : Word) (s : State) : Res :=
  .next (driveDraw s)

/-- POT5 is a draw (R322). -/
def execRPot5 (_addr : Word) (s : State) : Res :=
  .next (driveDraw s)

/-- POT6 is a draw (R323). -/
def execRPot6 (_addr : Word) (s : State) : Res :=
  .next (driveDraw s)

/-- POT7 is a draw (R324). -/
def execRPot7 (_addr : Word) (s : State) : Res :=
  .next (driveDraw s)

/-- ALLPOT is a draw (R325). -/
def execRAllpot (_addr : Word) (s : State) : Res :=
  .next (driveDraw s)

/-- KBCODE (R326). -/
def execRKbcode (_addr : Word) (s : State) : Res :=
  .next (driveData s.pokey.kbcode s)

/-- RANDOM is a draw (R327). -/
def execRRandom (_addr : Word) (s : State) : Res :=
  .next (driveDraw s)

/-- An offset without a readable register reads open bus (R328). -/
def execRPokeybFf (_addr : Word) (s : State) : Res :=
  .next (driveOpenBus s)

/-- An offset without a readable register reads open bus (R328). -/
def execRPokeycFf (_addr : Word) (s : State) : Res :=
  .next (driveOpenBus s)

/-- SERIN is a draw (R329). -/
def execRSerin (_addr : Word) (s : State) : Res :=
  .next (driveDraw s)

/-- IRQST; reading acknowledges nothing (R330). -/
def execRIrqst (_addr : Word) (s : State) : Res :=
  .next (driveData s.pokey.irqst s)

/-- SKSTAT (R331). -/
def execRSkstat (_addr : Word) (s : State) : Res :=
  .next (driveData s.pokey.skstat s)

end Sys2Proof.Machine
end

