-- ==== Sys2Proof/Machine/Dispatch.lean ====
section
/-! DEFINITION. One arm for each instruction: a direct call of its meaning. -/

namespace Sys2Proof.Machine

def exec (i : Instr) (s : State) : Host.Outcome State Fault Refusal :=
  match i with
  | .blank dli count => Sys2Proof.Machine.execBlank dli count s
  | .jmp dli ignored target => Sys2Proof.Machine.execJmp dli ignored target s
  | .jvb dli ignored target => Sys2Proof.Machine.execJvb dli ignored target s
  | .mode2 dli lms vs hs => Sys2Proof.Machine.execMode2 dli lms vs hs s
  | .mode3 dli lms vs hs => Sys2Proof.Machine.execMode3 dli lms vs hs s
  | .mode4 dli lms vs hs => Sys2Proof.Machine.execMode4 dli lms vs hs s
  | .mode5 dli lms vs hs => Sys2Proof.Machine.execMode5 dli lms vs hs s
  | .mode6 dli lms vs hs => Sys2Proof.Machine.execMode6 dli lms vs hs s
  | .mode7 dli lms vs hs => Sys2Proof.Machine.execMode7 dli lms vs hs s
  | .mode8 dli lms vs hs => Sys2Proof.Machine.execMode8 dli lms vs hs s
  | .mode9 dli lms vs hs => Sys2Proof.Machine.execMode9 dli lms vs hs s
  | .modeA dli lms vs hs => Sys2Proof.Machine.execModeA dli lms vs hs s
  | .modeB dli lms vs hs => Sys2Proof.Machine.execModeB dli lms vs hs s
  | .modeC dli lms vs hs => Sys2Proof.Machine.execModeC dli lms vs hs s
  | .modeD dli lms vs hs => Sys2Proof.Machine.execModeD dli lms vs hs s
  | .modeE dli lms vs hs => Sys2Proof.Machine.execModeE dli lms vs hs s
  | .modeF dli lms vs hs => Sys2Proof.Machine.execModeF dli lms vs hs s
  | .wDmactl addr v => Sys2Proof.Machine.execWDmactl addr v s
  | .wChactl addr v => Sys2Proof.Machine.execWChactl addr v s
  | .wDlistl addr v => Sys2Proof.Machine.execWDlistl addr v s
  | .wDlisth addr v => Sys2Proof.Machine.execWDlisth addr v s
  | .wHscrol addr v => Sys2Proof.Machine.execWHscrol addr v s
  | .wVscrol addr v => Sys2Proof.Machine.execWVscrol addr v s
  | .wAnticUnused6 addr v => Sys2Proof.Machine.execWAnticUnused6 addr v s
  | .wPmbase addr v => Sys2Proof.Machine.execWPmbase addr v s
  | .wAnticUnused8 addr v => Sys2Proof.Machine.execWAnticUnused8 addr v s
  | .wChbase addr v => Sys2Proof.Machine.execWChbase addr v s
  | .wWsync addr v => Sys2Proof.Machine.execWWsync addr v s
  | .wAnticUnusedb addr v => Sys2Proof.Machine.execWAnticUnusedb addr v s
  | .wAnticUnusedc addr v => Sys2Proof.Machine.execWAnticUnusedc addr v s
  | .wAnticUnusedd addr v => Sys2Proof.Machine.execWAnticUnusedd addr v s
  | .wNmien addr v => Sys2Proof.Machine.execWNmien addr v s
  | .wNmires addr v => Sys2Proof.Machine.execWNmires addr v s
  | .rAntic0Ff addr => Sys2Proof.Machine.execRAntic0Ff addr s
  | .rAntic1Ff addr => Sys2Proof.Machine.execRAntic1Ff addr s
  | .rAntic2Ff addr => Sys2Proof.Machine.execRAntic2Ff addr s
  | .rAntic3Ff addr => Sys2Proof.Machine.execRAntic3Ff addr s
  | .rAntic4Ff addr => Sys2Proof.Machine.execRAntic4Ff addr s
  | .rAntic5Ff addr => Sys2Proof.Machine.execRAntic5Ff addr s
  | .rAntic6Ff addr => Sys2Proof.Machine.execRAntic6Ff addr s
  | .rAntic7Ff addr => Sys2Proof.Machine.execRAntic7Ff addr s
  | .rAntic8Ff addr => Sys2Proof.Machine.execRAntic8Ff addr s
  | .rAntic9Ff addr => Sys2Proof.Machine.execRAntic9Ff addr s
  | .rAnticaFf addr => Sys2Proof.Machine.execRAnticaFf addr s
  | .rVcount addr => Sys2Proof.Machine.execRVcount addr s
  | .rPenh addr => Sys2Proof.Machine.execRPenh addr s
  | .rPenv addr => Sys2Proof.Machine.execRPenv addr s
  | .rAnticeFf addr => Sys2Proof.Machine.execRAnticeFf addr s
  | .rNmist addr => Sys2Proof.Machine.execRNmist addr s
  | .wHposp0 addr v => Sys2Proof.Machine.execWHposp0 addr v s
  | .wHposp1 addr v => Sys2Proof.Machine.execWHposp1 addr v s
  | .wHposp2 addr v => Sys2Proof.Machine.execWHposp2 addr v s
  | .wHposp3 addr v => Sys2Proof.Machine.execWHposp3 addr v s
  | .wHposm0 addr v => Sys2Proof.Machine.execWHposm0 addr v s
  | .wHposm1 addr v => Sys2Proof.Machine.execWHposm1 addr v s
  | .wHposm2 addr v => Sys2Proof.Machine.execWHposm2 addr v s
  | .wHposm3 addr v => Sys2Proof.Machine.execWHposm3 addr v s
  | .wSizep0 addr v => Sys2Proof.Machine.execWSizep0 addr v s
  | .wSizep1 addr v => Sys2Proof.Machine.execWSizep1 addr v s
  | .wSizep2 addr v => Sys2Proof.Machine.execWSizep2 addr v s
  | .wSizep3 addr v => Sys2Proof.Machine.execWSizep3 addr v s
  | .wSizem addr v => Sys2Proof.Machine.execWSizem addr v s
  | .wGrafp0 addr v => Sys2Proof.Machine.execWGrafp0 addr v s
  | .wGrafp1 addr v => Sys2Proof.Machine.execWGrafp1 addr v s
  | .wGrafp2 addr v => Sys2Proof.Machine.execWGrafp2 addr v s
  | .wGrafp3 addr v => Sys2Proof.Machine.execWGrafp3 addr v s
  | .wGrafm addr v => Sys2Proof.Machine.execWGrafm addr v s
  | .wColpm0 addr v => Sys2Proof.Machine.execWColpm0 addr v s
  | .wColpm1 addr v => Sys2Proof.Machine.execWColpm1 addr v s
  | .wColpm2 addr v => Sys2Proof.Machine.execWColpm2 addr v s
  | .wColpm3 addr v => Sys2Proof.Machine.execWColpm3 addr v s
  | .wColpf0 addr v => Sys2Proof.Machine.execWColpf0 addr v s
  | .wColpf1 addr v => Sys2Proof.Machine.execWColpf1 addr v s
  | .wColpf2 addr v => Sys2Proof.Machine.execWColpf2 addr v s
  | .wColpf3 addr v => Sys2Proof.Machine.execWColpf3 addr v s
  | .wColbk addr v => Sys2Proof.Machine.execWColbk addr v s
  | .wPrior addr v => Sys2Proof.Machine.execWPrior addr v s
  | .wVdelay addr v => Sys2Proof.Machine.execWVdelay addr v s
  | .wGractl addr v => Sys2Proof.Machine.execWGractl addr v s
  | .wHitclr addr v => Sys2Proof.Machine.execWHitclr addr v s
  | .wConsolW addr v => Sys2Proof.Machine.execWConsolW addr v s
  | .rM0pf addr => Sys2Proof.Machine.execRM0pf addr s
  | .rM1pf addr => Sys2Proof.Machine.execRM1pf addr s
  | .rM2pf addr => Sys2Proof.Machine.execRM2pf addr s
  | .rM3pf addr => Sys2Proof.Machine.execRM3pf addr s
  | .rP0pf addr => Sys2Proof.Machine.execRP0pf addr s
  | .rP1pf addr => Sys2Proof.Machine.execRP1pf addr s
  | .rP2pf addr => Sys2Proof.Machine.execRP2pf addr s
  | .rP3pf addr => Sys2Proof.Machine.execRP3pf addr s
  | .rM0pl addr => Sys2Proof.Machine.execRM0pl addr s
  | .rM1pl addr => Sys2Proof.Machine.execRM1pl addr s
  | .rM2pl addr => Sys2Proof.Machine.execRM2pl addr s
  | .rM3pl addr => Sys2Proof.Machine.execRM3pl addr s
  | .rP0pl addr => Sys2Proof.Machine.execRP0pl addr s
  | .rP1pl addr => Sys2Proof.Machine.execRP1pl addr s
  | .rP2pl addr => Sys2Proof.Machine.execRP2pl addr s
  | .rP3pl addr => Sys2Proof.Machine.execRP3pl addr s
  | .rTrig0 addr => Sys2Proof.Machine.execRTrig0 addr s
  | .rTrig1 addr => Sys2Proof.Machine.execRTrig1 addr s
  | .rTrig2 addr => Sys2Proof.Machine.execRTrig2 addr s
  | .rTrig3 addr => Sys2Proof.Machine.execRTrig3 addr s
  | .rPal addr => Sys2Proof.Machine.execRPal addr s
  | .rGtia15Ff addr => Sys2Proof.Machine.execRGtia15Ff addr s
  | .rGtia16Ff addr => Sys2Proof.Machine.execRGtia16Ff addr s
  | .rGtia17Ff addr => Sys2Proof.Machine.execRGtia17Ff addr s
  | .rGtia18Ff addr => Sys2Proof.Machine.execRGtia18Ff addr s
  | .rGtia19Ff addr => Sys2Proof.Machine.execRGtia19Ff addr s
  | .rGtia1aFf addr => Sys2Proof.Machine.execRGtia1aFf addr s
  | .rGtia1bFf addr => Sys2Proof.Machine.execRGtia1bFf addr s
  | .rGtia1cFf addr => Sys2Proof.Machine.execRGtia1cFf addr s
  | .rGtia1dFf addr => Sys2Proof.Machine.execRGtia1dFf addr s
  | .rGtia1eFf addr => Sys2Proof.Machine.execRGtia1eFf addr s
  | .rConsol addr => Sys2Proof.Machine.execRConsol addr s
  | .wAudf1 addr v => Sys2Proof.Machine.execWAudf1 addr v s
  | .wAudc1 addr v => Sys2Proof.Machine.execWAudc1 addr v s
  | .wAudf2 addr v => Sys2Proof.Machine.execWAudf2 addr v s
  | .wAudc2 addr v => Sys2Proof.Machine.execWAudc2 addr v s
  | .wAudf3 addr v => Sys2Proof.Machine.execWAudf3 addr v s
  | .wAudc3 addr v => Sys2Proof.Machine.execWAudc3 addr v s
  | .wAudf4 addr v => Sys2Proof.Machine.execWAudf4 addr v s
  | .wAudc4 addr v => Sys2Proof.Machine.execWAudc4 addr v s
  | .wAudctl addr v => Sys2Proof.Machine.execWAudctl addr v s
  | .wStimer addr v => Sys2Proof.Machine.execWStimer addr v s
  | .wSkres addr v => Sys2Proof.Machine.execWSkres addr v s
  | .wPotgo addr v => Sys2Proof.Machine.execWPotgo addr v s
  | .wPokeyUnusedc addr v => Sys2Proof.Machine.execWPokeyUnusedc addr v s
  | .wSerout addr v => Sys2Proof.Machine.execWSerout addr v s
  | .wIrqen addr v => Sys2Proof.Machine.execWIrqen addr v s
  | .wSkctl addr v => Sys2Proof.Machine.execWSkctl addr v s
  | .rPot0 addr => Sys2Proof.Machine.execRPot0 addr s
  | .rPot1 addr => Sys2Proof.Machine.execRPot1 addr s
  | .rPot2 addr => Sys2Proof.Machine.execRPot2 addr s
  | .rPot3 addr => Sys2Proof.Machine.execRPot3 addr s
  | .rPot4 addr => Sys2Proof.Machine.execRPot4 addr s
  | .rPot5 addr => Sys2Proof.Machine.execRPot5 addr s
  | .rPot6 addr => Sys2Proof.Machine.execRPot6 addr s
  | .rPot7 addr => Sys2Proof.Machine.execRPot7 addr s
  | .rAllpot addr => Sys2Proof.Machine.execRAllpot addr s
  | .rKbcode addr => Sys2Proof.Machine.execRKbcode addr s
  | .rRandom addr => Sys2Proof.Machine.execRRandom addr s
  | .rPokeybFf addr => Sys2Proof.Machine.execRPokeybFf addr s
  | .rPokeycFf addr => Sys2Proof.Machine.execRPokeycFf addr s
  | .rSerin addr => Sys2Proof.Machine.execRSerin addr s
  | .rIrqst addr => Sys2Proof.Machine.execRIrqst addr s
  | .rSkstat addr => Sys2Proof.Machine.execRSkstat addr s
  | .wPorta addr v => Sys2Proof.Machine.execWPorta addr v s
  | .rPorta addr => Sys2Proof.Machine.execRPorta addr s
  | .wPortb addr v => Sys2Proof.Machine.execWPortb addr v s
  | .rPortb addr => Sys2Proof.Machine.execRPortb addr s
  | .wPactl addr v => Sys2Proof.Machine.execWPactl addr v s
  | .rPactl addr => Sys2Proof.Machine.execRPactl addr s
  | .wPbctl addr v => Sys2Proof.Machine.execWPbctl addr v s
  | .rPbctl addr => Sys2Proof.Machine.execRPbctl addr s
  | .wUnmappedD1 addr v => Sys2Proof.Machine.execWUnmappedD1 addr v s
  | .rUnmappedD1 addr => Sys2Proof.Machine.execRUnmappedD1 addr s
  | .wUnmappedD6 addr v => Sys2Proof.Machine.execWUnmappedD6 addr v s
  | .rUnmappedD6 addr => Sys2Proof.Machine.execRUnmappedD6 addr s
  | .wUnmappedD7 addr v => Sys2Proof.Machine.execWUnmappedD7 addr v s
  | .rUnmappedD7 addr => Sys2Proof.Machine.execRUnmappedD7 addr s
  | .wCartctl addr v => Sys2Proof.Machine.execWCartctl addr v s
  | .rCartctl addr => Sys2Proof.Machine.execRCartctl addr s

end Sys2Proof.Machine
end

