-- ==== Sys2Proof/Machine/Bus.lean ====
section
/-! DEFINITION. The CPU's bus accesses (20_memory section 4 and 5): an access to the I/O page runs the register access
it decodes to, any other reaches storage. -/

namespace Sys2Proof.Machine

/-- One CPU bus write (20_memory R71, R76). -/
def busWrite (addr : Word) (v : Byte) (s : State) : Res :=
  match decodeWrite addr v with
  | .ok i => exec i s
  | .error _ => .next (memWriteCpu s addr v)

/-- One CPU bus read (20_memory R70, R75). -/
def busRead (addr : Word) (s : State) : Res :=
  match decodeRead addr with
  | .ok i => exec i s
  | .error _ => .next (driveData (memReadCpu s addr) s)

end Sys2Proof.Machine
end

