-- ==== Sys2Proof/Machine/HostEvents.lean ====
section
/-! DEFINITION. The host events, each applied atomically between two ticks (40_antic_timing R158): keys and IRQ
environment events (44_pokey_registers section 4), collisions and triggers (43_gtia section 4), Multiplexer inputs
(46_pia_and_inputs section 4). -/

namespace Sys2Proof.Machine

/-- `key_map`: the two entries the source fixes, and the configured table for the rest (44_pokey_registers R333). -/
def keyMap (key : HostKey) (shift ctl : Bool) : Option (BitVec 6 × Bool × Bool) :=
  match key, shift, ctl with
  | .a, false, false => some (0x3f, false, false)
  | .leftBracket, _, ctl => some (0x20, true, ctl)
  | key, shift, ctl => Config.keyTable key shift ctl

/-- A press of a mapped key (44_pokey_registers R332). -/
def keyDown (code : BitVec 6) (shift ctl : Bool) (s : State) : State :=
  requestIrq keyboardBit (s.pokey.irqen.getLsbD keyboardBit)
    (s.setPokey { s.pokey with kbcode := kbcodeOf code shift ctl, skstat := skstatPress s.pokey.skstat shift })

/-- A release of a mapped key (44_pokey_registers R332). -/
def keyUp (s : State) : State :=
  s.setPokey { s.pokey with skstat := skstatRelease s.pokey.skstat }

/-- `key_press(key, pressed, shift, ctl)`: an unmapped key has no effect (44_pokey_registers R332). -/
def keyPress (key : HostKey) (pressed shift ctl : Bool) (s : State) : State :=
  match keyMap key shift ctl with
  | none => s
  | some (code, sh, ct) => if pressed then keyDown code sh ct s else keyUp s

/-- `irq_event(b)`: only an enabled source requests (44_pokey_registers R334). -/
def irqEvent (source : IrqSource) (s : State) : State :=
  if s.pokey.irqen.getLsbD source.bit then requestIrq source.bit true s else s

/-- `collide(i, m)` (43_gtia R296). -/
def collide (i : Fin 16) (m : Byte) (s : State) : State :=
  s.setGtia { s.gtia with collisions := s.gtia.collisions.set i (s.gtia.collisions[i] ||| (m &&& 0x0f)) }

/-- `set_trigger(i, pressed)` (43_gtia R297). -/
def setTrigger (i : Fin 4) (pressed : Bool) (s : State) : State :=
  s.setGtia { s.gtia with trig := s.gtia.trig.set i (if pressed then 0 else 1) }

/-- `mux_set(mux, source, mask)` (46_pia_and_inputs R380). -/
def muxSet (mux : MuxId) (source : Nat) (mask : Byte) (s : State) : State :=
  match mux with
  | .joystick => s.setJoyMux (Memory.write unsetMask s.joyMux source mask)
  | .console => s.setConsolMux (Memory.write unsetMask s.consolMux source mask)

end Sys2Proof.Machine
end

