-- ==== Sys2Proof/Machine/Synthesis.lean ====
section
/-! DEFINITION. The audio backend (45_pokey_synthesis): the drain of the POKEY queue and one synthesis cycle. -/

namespace Sys2Proof.Machine

/-! ### Replay -/

/-- `s_e = max(s_now, ceil(t(e) * CLOCK_HZ))` with `t(e) = timestamp / CLOCK_HZ - delta_t + latency` (R340). -/
def applyCycle (deltaT latency : Rat) (sNow timestamp : Nat) : Nat :=
  max sNow (((timestamp : Rat) / (clockHz : Rat) - deltaT + latency) * (clockHz : Rat)).ceil.toNat

/-- A queue entry with its application cycle (R340). -/
def timed (deltaT latency : Rat) (sNow : Nat) (e : QueueEntry) : TimedWrite where
  due := applyCycle deltaT latency sNow e.timestamp
  reg := e.reg
  value := e.value

/-- The drain: the whole queue is taken, in order, and left empty (R340, 20_memory R84). -/
def audioDrain (s : State) : State :=
  (s.setPokey { s.pokey with audioQueue := [] }).setSynth { s.synth with
    pending := s.synth.pending ++ s.pokey.audioQueue.map (timed Config.deltaT Config.latency s.synth.cycle) }

/-- Applies one entry: AUDF at even registers, AUDC at odd ones, AUDCTL at 8 (R340). -/
def applyWrite (y : Synth) (w : TimedWrite) : Synth :=
  match w.reg with
  | 0 => { y with audf := y.audf.set 0 w.value }
  | 1 => { y with audc := y.audc.set 0 w.value }
  | 2 => { y with audf := y.audf.set 1 w.value }
  | 3 => { y with audc := y.audc.set 1 w.value }
  | 4 => { y with audf := y.audf.set 2 w.value }
  | 5 => { y with audc := y.audc.set 2 w.value }
  | 6 => { y with audf := y.audf.set 3 w.value }
  | 7 => { y with audc := y.audc.set 3 w.value }
  | 8 => { y with audctl := w.value }

/-- Applies every entry due at this cycle, in queue order (R340, R352). -/
def applyDue (y : Synth) : Synth :=
  (y.pending.filter fun w => decide (w.due = y.cycle)).foldl applyWrite
    { y with pending := y.pending.filter fun w => !decide (w.due = y.cycle) }

/-! ### Clocks and dividers -/

/-- Whether the base clock pulses on this cycle: every 28 or every 114 cycles (R344). -/
def basePulse (audctl : Byte) (s : Nat) : Bool := decide (s % (if audctl.getLsbD 0 then 114 else 28) = 0)

/-- Whether channels 1 and 2 (`pair = 0`) or 3 and 4 (`pair = 1`) are linked (R342). -/
def linked (audctl : Byte) (pair : Fin 2) : Bool := audctl.getLsbD (if pair = 0 then 4 else 3)

/-- Whether the low channel of the pair is fast (R342): channel 1 or channel 3. -/
def fastLow (audctl : Byte) (pair : Fin 2) : Bool := audctl.getLsbD (if pair = 0 then 6 else 5)

/-- Whether the low channel of the pair is clocked on this cycle (R344). -/
def clockLow (audctl : Byte) (pair : Fin 2) (s : Nat) : Bool := fastLow audctl pair || basePulse audctl s

/-- The channel of a pair, by index 0..3. -/
def lowChannel (pair : Fin 2) : Fin 4 := if pair = 0 then 0 else 2
def highChannel (pair : Fin 2) : Fin 4 := if pair = 0 then 1 else 3

/-- The 16-bit divisor of a linked pair (R343). -/
def pairDivisor (audf : Vector Byte 4) (pair : Fin 2) : Nat :=
  audf[lowChannel pair].toNat + 256 * audf[highChannel pair].toNat

/-- One clock pulse of a down-counter: the new count, and whether it reloaded, which is its event (R345). -/
def countDown (clocked : Bool) (reload cnt : Nat) : Nat × Bool :=
  if clocked then (if cnt = 0 then (reload, true) else (cnt - 1, false)) else (cnt, false)

/-- The low channel of a pair: alone it counts on its clock; linked it stands still and has no events (R345, R346). -/
def stepLow (y : Synth) (pair : Fin 2) : Nat × Bool :=
  if linked y.audctl pair then (y.cnt[lowChannel pair], false)
  else countDown (clockLow y.audctl pair y.cycle)
    (y.audf[lowChannel pair].toNat + (if fastLow y.audctl pair then 3 else 0)) y.cnt[lowChannel pair]

/-- The high channel of a pair: alone it counts base pulses; linked it holds the pair's counter (R345, R346). -/
def stepHigh (y : Synth) (pair : Fin 2) : Nat × Bool :=
  if linked y.audctl pair then
    countDown (clockLow y.audctl pair y.cycle)
      (pairDivisor y.audf pair + (if fastLow y.audctl pair then 6 else 0)) y.cnt[highChannel pair]
  else countDown (basePulse y.audctl y.cycle) y.audf[highChannel pair].toNat y.cnt[highChannel pair]

/-- The counters after this cycle, in channel order (R352). -/
def nextCounts (y : Synth) : Vector Nat 4 :=
  #v[(stepLow y 0).1, (stepHigh y 0).1, (stepLow y 1).1, (stepHigh y 1).1]

/-- The channels' events of this cycle, in channel order (R352). -/
def events (y : Synth) : Vector Bool 4 :=
  #v[(stepLow y 0).2, (stepHigh y 0).2, (stepLow y 1).2, (stepHigh y 1).2]

/-! ### Output generation -/

/-- The polynomial bits that synthesis reads on one cycle (R348). -/
structure PolyBits where
  p4 : Bool
  p5 : Bool
  p9 : Bool
  p17 : Bool
  deriving DecidableEq, Repr

/-- The configured polynomial bits at cycle `s` (R348). -/
def polyBits (s : Nat) : PolyBits where
  p4 := Config.poly4 (Fin.ofNat 15 (Config.start4.val + s))
  p5 := Config.poly5 (Fin.ofNat 31 (Config.start5.val + s))
  p9 := Config.poly9 (Fin.ofNat 511 (Config.start9.val + s))
  p17 := Config.poly17 (Fin.ofNat 131071 (Config.start17.val + s))

/-- The output flip-flop after an event: gate by the 5-bit polynomial, toggle, or a polynomial's bit (R349). -/
def eventOut (p : PolyBits) (audctl audc : Byte) (out : Bool) : Bool :=
  if !audc.getLsbD 7 && !p.p5 then out
  else if audc.getLsbD 5 then !out
  else if audc.getLsbD 6 then p.p4
  else if audctl.getLsbD 7 then p.p9 else p.p17

/-- Channel `k`'s flip-flop after this cycle (R352). -/
def nextOut (p : PolyBits) (y : Synth) (k : Fin 4) : Bool :=
  if (events y)[k] then eventOut p y.audctl y.audc[k] y.outFF[k] else y.outFF[k]

/-- The flip-flops and the high-pass latches after this cycle: channel 3 clocks channel 1's latch and channel 4
channel 2's, after the outputs update (R351, R352, 90_conflicts C9). -/
def stepOutputs (p : PolyBits) (y : Synth) : Synth :=
  { y with
    cnt := nextCounts y
    outFF := #v[nextOut p y 0, nextOut p y 1, nextOut p y 2, nextOut p y 3]
    hp := #v[if (events y)[2] then nextOut p y 0 else y.hp[0], if (events y)[3] then nextOut p y 1 else y.hp[1]] }

/-- The effective output of a channel: channels 1 and 2 through their high-pass latch when it is enabled (R351). -/
def effOut (y : Synth) (k : Fin 4) : Bool :=
  if k = 0 then (if y.audctl.getLsbD 2 then y.outFF[0] ^^ y.hp[0] else y.outFF[0])
  else if k = 1 then (if y.audctl.getLsbD 1 then y.outFF[1] ^^ y.hp[1] else y.outFF[1])
  else y.outFF[k]

/-- `contrib(k)`: the volume, always with volume-only, else while the effective output is 1 (R350, R353). -/
def contrib (y : Synth) (k : Fin 4) : Nat :=
  if y.audc[k].getLsbD 4 || effOut y k then (y.audc[k].extractLsb' 0 4).toNat else 0

/-- `level(s)` (R353). -/
def level (y : Synth) : Nat := contrib y 0 + contrib y 1 + contrib y 2 + contrib y 3

/-! ### Mixing -/

/-- `volume_curve(l)` for a level 0..60 (R354, 92 D33). -/
def volumeCurve (l : Nat) : Rat := Config.volumeCurve.value (Fin.ofNat 61 l)

/-- How many host samples `k` have `s_k = floor(k * CLOCK_HZ / rate)` equal to `s`: those from
`ceil(s * rate / CLOCK_HZ)` on and below `ceil((s + 1) * rate / CLOCK_HZ)` (R355). -/
def samplesAt (rate : Rat) (s : Nat) : Nat :=
  ((((s : Rat) + 1) * rate / (clockHz : Rat)).ceil - ((s : Rat) * rate / (clockHz : Rat)).ceil).toNat

/-- `sum over j of h[j] * x(s - j)`, over the history from `x(s)` back to `x(0)` (R355). -/
def firSum (h history : List Rat) : Rat := (List.zipWith (· * ·) h history).sum

/-- `synth_cycle(s)` on the synthesis state (R352). -/
def synthStep (p : PolyBits) (y : Synth) : Synth :=
  let z := stepOutputs p (applyDue y)
  { z with history := volumeCurve (level z) :: z.history, cycle := z.cycle + 1 }

/-- One synthesis cycle, with the host samples it completes (R352, R355). -/
def synthCycle (s : State) : State :=
  let y := synthStep (polyBits s.synth.cycle) s.synth
  (s.setSynth y).setOut { s.out with
    samples := List.replicate (samplesAt Config.hostSampleRate.value s.synth.cycle) (firSum Config.firFilter y.history) }

end Sys2Proof.Machine
end

