-- ==== Sys2Proof/Machine/Timing.lean ====
section
/-! DEFINITION. The steps of the tick around the mode-line start (40_antic_timing): counters, steal schedule, NMI
latch, WSYNC, NMI fire, snapshot and steals. -/

namespace Sys2Proof.Machine

/-- Step (1) `advance_counters()` (R131). -/
def advanceCounters (a : Antic) : Antic :=
  if a.cycle + 1 = 114 then
    { a with cycle := 0, scanLine := (a.scanLine + 1) % 312, totalCycles := a.totalCycles + 1 }
  else { a with cycle := a.cycle + 1, totalCycles := a.totalCycles + 1 }

/-- `dma_key()` (R141). -/
def dmaKey (a : Antic) : DmaKey where
  dmactl := a.dmactl
  ir := a.ir
  hscrol := scrollBits a.hscrol
  lineIndex := a.scanLine - a.startScanLine
  firstLine := decide (a.scanLine - a.startScanLine = 0)
  dlFetched := decide (a.scanLine - a.startScanLine = 0) && a.dmactl.getLsbD 5
  voffset := a.voffset

/-- Step (3): the windows of this scan line, none in vertical blank (R140, R144). -/
def scheduleWindows (schedule : DmaKey → List Window) (a : Antic) : Antic :=
  { a with dmaWindows := if visible a.scanLine then schedule (dmaKey a) else [] }

/-- Step (4) `check_nmi()` (R151). -/
def checkNmi (a : Antic) : Antic :=
  { a with nmiPending :=
      if a.scanLine = 248 then some .vbi else if isDli a then some .dli else a.nmiPending }

/-- The cycle a WSYNC stall lands on (R150, 92 D18). -/
def wsyncTarget (cycle : Nat) : Nat := if cycle ≤ 104 then 104 else 113

/-- Moves the cycle counter forward to `target`: elapsed time, taken from the CPU (R146). -/
def skipTo (target : Nat) (s : State) : State :=
  (s.setAntic { s.antic with
      cycle := target
      totalCycles := s.antic.totalCycles + (target - s.antic.cycle) }).setOut
    { s.out with stolen := s.out.stolen + (target - s.antic.cycle) }

/-- Step (5): a pending WSYNC at an instruction boundary (R150, 90_conflicts C7). -/
def applyWsync (atBoundary : Bool) (s : State) : State :=
  if s.antic.wsyncPending && atBoundary then
    skipTo (wsyncTarget s.antic.cycle) (s.setAntic { s.antic with wsyncPending := false })
  else s

/-- Step (6): a latched request fires from cycle 5 on (R152). -/
def fireIfDue (s : State) : State :=
  match s.antic.nmiPending with
  | none => s
  | some k => if 5 ≤ s.antic.cycle then fireNmi k s else s

/-- `gtia_snapshot()` (43_gtia R298). -/
def gtiaSnapshot (g : Gtia) : GtiaSnapshot where
  regs := g.regs
  playerGraphics := g.playerGraphics
  missileGraphics := g.missileGraphics
  prior := g.prior
  hposp0Filtered := g.hposp0Filtered

/-- `take_snapshot()` (R156). -/
def lineSnapshot (s : State) : LineSnapshot where
  scanLine := s.antic.scanLine
  lineIndex := s.antic.scanLine - s.antic.startScanLine
  chactl := s.antic.chactl
  gtia := gtiaSnapshot s.gtia

/-- Whether this tick takes the line's snapshot (R155). -/
def snapshotDue (visibleCycle : Nat) (a : Antic) : Bool :=
  visible a.scanLine && !a.snapshotDone && decide (visibleCycle ≤ a.cycle)

/-- Step (7): one snapshot for each visible line (R155). -/
def snapshotIfDue (visibleCycle : Nat) (s : State) : State :=
  (s.setAntic { s.antic with snapshotDone := s.antic.snapshotDone || snapshotDue visibleCycle s.antic }).setOut
    { s.out with snapshot := if snapshotDue visibleCycle s.antic then some (lineSnapshot s) else s.out.snapshot }

/-- The loop of `apply_steals()`: every window that the counter has reached is charged, as far as it extends beyond the
counter; the windows left and the cycle reached (R145). -/
def stealWalk : List Window → Nat → List Window × Nat
  | [], c => ([], c)
  | w :: ws, c => if w.start ≤ c then stealWalk ws (max c (w.start + w.len)) else (w :: ws, c)

/-- Step (8) `apply_steals()` (R145). -/
def applySteals (s : State) : State :=
  let r := stealWalk s.antic.dmaWindows s.antic.cycle
  skipTo r.2 (s.setAntic { s.antic with dmaWindows := r.1 })

/-- Steps (5) to (8), which every tick makes (R130). -/
def tickTail (visibleCycle : Nat) (atBoundary : Bool) (s : State) : State :=
  applySteals (snapshotIfDue visibleCycle (fireIfDue (applyWsync atBoundary s)))

/-- `machine_reset()` on ANTIC: the zero state, but for `total_cycles` (70_reset_and_hazards R420, R421). -/
def resetAntic (a : Antic) : Antic := { Antic.zero with totalCycles := a.totalCycles }

/-- `machine_reset()` (70_reset_and_hazards R420): ANTIC and the cartridge; everything else stays. -/
def machineReset (s : State) : State :=
  (s.setAntic (resetAntic s.antic)).setCart (if Config.cartPresent then Config.cartReset s.cart else s.cart)

end Sys2Proof.Machine
end

