-- ==== Sys2Proof/Machine/Tick.lean ====
section
/-! DEFINITION. The mode-line start and the tick (40_antic_timing R130, 41_antic_display_list R170), which run `exec`. -/

namespace Sys2Proof.Machine

/-- The instruction at the display-list pointer: all three bytes are read through the ANTIC view, each inside the
pointer's 1 KB page (30_encoding R103). -/
def fetchInstr (s : State) : Instr :=
  decodeDl (memReadAntic s (dlistOffset s.antic.dlist 0)) (memReadAntic s (dlistOffset s.antic.dlist 1))
    (memReadAntic s (dlistOffset s.antic.dlist 2))

/-- `default_line()`: one blank line, no fetch, the pointers unchanged (41_antic_display_list R171, R204). -/
def defaultLine (s : State) : State :=
  emptyLine 0 1 (nextLine s.antic.startScanLine 1) s.antic.dlist s

/-- `prepare_mode_line()`: step (2) of a tick (41_antic_display_list R170). -/
def prepareModeLine (s : State) : Res :=
  let s1 := s.setAntic { s.antic with startScanLine := s.antic.scanLine }
  if s1.antic.dmactl.getLsbD 5 then exec (fetchInstr s1) s1 else .next (defaultLine s1)

/-- Step (2) of a tick at cycle 0: a mode line starts, or the current one goes on (40_antic_timing R133, R134). -/
def modeLineStep (s : State) : Res :=
  if isNewModeLine s.antic then prepareModeLine s else .next s

/-- Steps (3) and (4) of a tick at cycle 0 (40_antic_timing R130). -/
def scheduleLine (s : State) : State := s.setAntic (checkNmi (scheduleWindows Config.dmaSchedule.table s.antic))

/-- Steps (2) to (4), at cycle 0 of a line (40_antic_timing R130). -/
def lineStart (s : State) : Res :=
  andThen (modeLineStep (s.setAntic { s.antic with snapshotDone := false })) scheduleLine

/-- `tick(at_boundary)`, one atomic step (40_antic_timing R130). -/
def tick (atBoundary : Bool) (s : State) : Res :=
  let s1 := s.setAntic (advanceCounters s.antic)
  andThen (if s1.antic.cycle = 0 then lineStart s1 else .next s1) (tickTail Config.visibleCycle.val atBoundary)

end Sys2Proof.Machine
end

