-- ==== Sys2Proof/Machine/Inputs.lean ====
section
/-! DEFINITION. What each input does, and how a given instruction is placed where the next step takes it from. -/

namespace Sys2Proof.Machine

/-- One action of the driver, the audio backend or the host (00_scope R8). -/
def runInput (i : Input) (s : State) : Res :=
  match i with
  | .tick atBoundary => tick atBoundary s
  | .write addr v => busWrite addr v s
  | .read addr => busRead addr s
  | .keyPress key pressed shift ctl => .next (keyPress key pressed shift ctl s)
  | .irqEvent source => .next (irqEvent source s)
  | .collide i m => .next (collide i m s)
  | .setTrigger i pressed => .next (setTrigger i pressed s)
  | .muxSet mux source mask => .next (muxSet mux source mask s)
  | .audioDrain => .next (audioDrain s)
  | .synthCycle => .next (synthCycle s)
  | .machineReset => .next (machineReset s)

/-- The state an input runs on: the input is taken from the list and the outputs are at rest. -/
def beginStep (rest : List Input) (s : State) : State := (s.setInputs rest).setOut Output.quiet

/-- A CPU cycle without a bus access, made when no input is queued; whether it is an instruction's first is free
(40_antic_timing R157, log 2). -/
def idleCycle (s : State) : Res :=
  tick (Config.idleBoundary s.draws) ((beginStep [] s).setDraws (s.draws + 1))

/-! ### Placing an instruction -/

/-- Whether a byte of the display list is in RAM for ANTIC. -/
def dlByteInRam (s : State) (k : Nat) : Bool :=
  match resolve s.bankEnv .antic .read (dlistOffset s.antic.dlist k) with
  | .ram _ => true
  | _ => false

/-- The display-list pointer where its three bytes are in RAM, else 0, where they always are (20_memory R80). -/
def dlPlace (s : State) : Word :=
  if dlByteInRam s 0 && dlByteInRam s 1 && dlByteInRam s 2 then s.antic.dlist else 0

/-- Lists a byte in the RAM that ANTIC fetches at `addr`, whatever that RAM held (log 14). -/
def pokeAntic (addr : Word) (v : Byte) (s : State) : State :=
  match resolve s.bankEnv .antic .read addr with
  | .ram i => s.setMem (Memory.put s.mem i v)
  | _ => s

/-- Stores three display-list bytes at the display-list pointer, from the third to the first. -/
def pokeDl (b0 b1 b2 : Byte) (s : State) : State :=
  pokeAntic (dlistOffset s.antic.dlist 0) b0
    (pokeAntic (dlistOffset s.antic.dlist 1) b1 (pokeAntic (dlistOffset s.antic.dlist 2) b2 s))

/-- Makes the next step a tick that starts a mode line from the bytes `b0 b1 b2`: the tick comes next, it wraps into
line 8, display-list DMA is on, and the bytes stand at the display-list pointer (log 14). -/
def placeDl (b0 b1 b2 : Byte) (s : State) : State :=
  let s1 := s.setAntic { s.antic with
    cycle := 113, scanLine := 7, dmactl := s.antic.dmactl ||| 0x20, dlist := dlPlace s }
  (pokeDl b0 b1 b2 s1).setInputs (.tick false :: s.inputs)

/-- Makes the next step the bus access whose bits are `w`: address in 15:0, direction in 16, value in 31:24 (log 15). -/
def placeBus (w : BitVec 32) (s : State) : State :=
  s.setInputs ((if w.getLsbD 16 then .read (w.extractLsb' 0 16)
    else .write (w.extractLsb' 0 16) (w.extractLsb' 24 8)) :: s.inputs)

/-- Places the instruction whose table bits are `w`, by the row's width. -/
def placeWord (nbits w : Nat) (s : State) : State :=
  match sourceOfBits nbits with
  | some .displayList =>
    placeDl (BitVec.ofNat 8 (w % 2 ^ nbits)) (BitVec.ofNat 8 (w % 2 ^ nbits / 256))
      (BitVec.ofNat 8 (w % 2 ^ nbits / 65536)) s
  | some .bus => placeBus (BitVec.ofNat 32 (w % 2 ^ nbits)) s
  | none => s

end Sys2Proof.Machine
end

