-- ==== Sys2Proof/Machine/Step.lean ====
section
/-! DEFINITION. One step of the machine: the next input, or an idle CPU cycle where none is queued. -/

namespace Sys2Proof.Machine

/-- One step (00_scope R8, 40_antic_timing R157, R158). -/
def step (s : State) : Host.Outcome State Fault Refusal :=
  match s.inputs with
  | [] => idleCycle s
  | i :: rest => runInput i (beginStep rest s)

/-- `s` with the instruction of table bits `w` placed where the next step takes its instruction from (log 14). -/
def State.withFetchWord (s : State) (nbits w : Nat) : State := placeWord nbits w s

end Sys2Proof.Machine
end

