-- ==== Sys2Proof/Machine/Start.lean ====
section
/-! DEFINITION. Power-on with a configuration as it is handed over (00_scope R10): a configuration outside its stated
domain is refused before the first tick (60_exceptions R391). -/

namespace Sys2Proof.Machine

/-- A cartridge as it may be handed over: an operation may have no answer somewhere (20_memory R67). -/
structure HandedCart where
  isEnabled : Nat → Option Bool
  read : Nat → Word → Option Byte
  write : Nat → Word → Byte → Option Nat
  reset : Nat → Option Nat

/-- The parameters that R391 speaks of, as they may be handed over, admitted or not (00_scope R10). -/
structure Handed where
  ramSize : Nat
  osRom : List Byte
  basicRom : Option (List Byte)
  cartridge : Option HandedCart
  dmaSchedule : DmaKey → List Window
  visibleCycle : Nat
  volumeCurve : Fin 61 → Rat

/-- Every operation of the cartridge answers everywhere (60_exceptions R391). -/
def cartTotal (c : HandedCart) : Prop :=
  (∀ s, (c.isEnabled s).isSome = true) ∧ (∀ s a, (c.read s a).isSome = true) ∧
  (∀ s a v, (c.write s a v).isSome = true) ∧ ∀ s, (c.reset s).isSome = true

/-- What each reason for a refusal finds in a configuration (60_exceptions R391). -/
def configBreaks (h : Handed) : ConfigFault → Prop
  | .ramSize => ∀ z : RamSize, h.ramSize ≠ z.bytes
  | .osRom => h.osRom.length ≠ 16384
  | .basicRom => ∃ b, h.basicRom = some b ∧ b.length ≠ 8192
  | .cartridge => ∃ c, h.cartridge = some c ∧ ¬ cartTotal c
  | .dmaSchedule => ∃ k, windowsOk (h.dmaSchedule k) = false
  | .visibleCycle => 113 < h.visibleCycle
  | .volumeCurve => ¬ (h.volumeCurve 0 = 0 ∧ ∀ i : Fin 60, h.volumeCurve i.castSucc ≤ h.volumeCurve i.succ)

/-- What power-on with a configuration answers: a refusal that names what the configuration breaks, or, where it breaks
nothing, the state at power-on (60_exceptions R391, 70_reset_and_hazards R422). A relation, since whether a table or a
cartridge breaks its rule is asked of infinitely many keys and states. -/
def Start (h : Handed) (o : Res) : Prop :=
  (∃ r, configBreaks h r ∧ o = .refused (.configuration r)) ∨ ((∀ r, ¬ configBreaks h r) ∧ o = .next State.reset)

/-- A ROM image by index as the list of its bytes. -/
@[irreducible] def romImage {w : Nat} (rom : BitVec w → Byte) : List Byte := List.ofFn fun i : Fin (2 ^ w) => rom (BitVec.ofFin i)

/-- The configuration of this machine, as it was handed over: the constants of Config.lean. -/
def configInUse : Handed where
  ramSize := Config.ramSize.bytes
  osRom := romImage Config.osRom
  basicRom := if Config.basicPresent then some (romImage Config.basicRom) else none
  cartridge :=
    if Config.cartPresent then some {
      isEnabled := fun s => some (Config.cartIsEnabled s)
      read := fun s a => some (Config.cartRead s a)
      write := fun s a v => some (Config.cartWrite s a v)
      reset := fun s => some (Config.cartReset s) }
    else none
  dmaSchedule := Config.dmaSchedule.table
  visibleCycle := Config.visibleCycle.val
  volumeCurve := Config.volumeCurve.value

end Sys2Proof.Machine
end

