-- ==== Sys2Proof/Safety.lean ====
section
/-! DEFINITION. What counts as a safe run, in the terms the statements use: a step that answers a next state, and the
invariants that tie the state's fields to the ranges the spec gives them. -/

namespace Sys2Proof.Machine

/-- The outcome is a next state: no fault and no refusal (60_exceptions R390). -/
def Completes (o : Res) : Prop := ∃ t, o = .next t

/-- The timing state of ANTIC stays in the ranges of 10_state and 40_antic_timing. -/
structure TimingInv (a : Antic) : Prop where
  /-- R22. -/
  cycle_lt : a.cycle < 114
  /-- R23. -/
  line_lt : a.scanLine < 312
  /-- R38 and R142: windows not yet charged stay sorted and end by cycle 112. -/
  windows_ok : windowsOk a.dmaWindows = true
  /-- R31: exactly one status bit, or none since NMIRES. -/
  nmist_one : a.nmist = 0 ∨ a.nmist = 0x80 ∨ a.nmist = 0x40
  /-- R151: a latched request is fired in its own line, before the line's last cycle. -/
  nmi_fired : a.nmiPending ≠ none → a.cycle ≤ 112
  /-- R155: a visible line's snapshot has been taken by the line's last cycle. -/
  snapshot_taken : visible a.scanLine = true → a.cycle = 113 → a.snapshotDone = true
  /-- R35: mode lines start on visible lines; 0 before the first. -/
  start_lt : a.startScanLine < 248
  /-- R35: a mode line has at most 16 scan lines. -/
  height_le : a.lineHeight ≤ 16
  /-- R188: the next mode-line start is a visible line; 0 before the first. -/
  next_visible : a.nextScanLine = 0 ∨ visible a.nextScanLine = true

/-- The register files keep the bits that the spec fixes. -/
structure RegisterInv (s : State) : Prop where
  /-- R43: only bits 3:0 of a collision register are ever set. -/
  collisions_low : ∀ i : Fin 16, s.gtia.collisions[i] &&& 0xf0 = 0
  /-- R46: every SKSTAT bit but 2 and 3 reads 1. -/
  skstat_ones : s.pokey.skstat ||| 0x0c = 0xff
  /-- R50: bits 7:6 of the control registers read 0. -/
  pactl_low : s.pia.pactl &&& 0xc0 = 0
  pbctl_low : s.pia.pbctl &&& 0xc0 = 0

/-- Every RAM cell that is listed lies inside the configured RAM (R54, R73). -/
def ramInside (m : List Host.Cell) : Bool := m.all fun c => decide (c.1 < Config.ramSize.bytes)

/-- Memory and the Multiplexers are in their canonical form, and RAM in its bounds. -/
structure StorageInv (s : State) : Prop where
  mem_wf : Memory.wf unlistedByte s.mem = true
  joy_wf : Memory.wf unsetMask s.joyMux = true
  consol_wf : Memory.wf unsetMask s.consolMux = true
  mem_inside : ramInside s.mem = true

/-- The audio timelines stay in order. -/
structure AudioInv (s : State) : Prop where
  /-- R48: timestamps never decrease along the queue. -/
  queue_sorted : s.pokey.audioQueue.Pairwise fun e f => e.timestamp ≤ f.timestamp
  /-- R48, R300: no timestamp lies in the future. -/
  queue_past : ∀ e ∈ s.pokey.audioQueue, e.timestamp ≤ s.antic.totalCycles
  /-- R340: a drained entry's cycle has not been computed yet. -/
  pending_future : ∀ w ∈ s.synth.pending, s.synth.cycle ≤ w.due
  /-- R341, R352: one level for each computed cycle. -/
  history_length : s.synth.history.length = s.synth.cycle

/-- The invariant of the machine. -/
structure Inv (s : State) : Prop where
  timing : TimingInv s.antic
  registers : RegisterInv s
  storage : StorageInv s
  audio : AudioInv s

end Sys2Proof.Machine
end

