-- ==== Sys2Proof/Certificates/Slice0/Obligations.lean ====
section
/-! DEFINITION. The statements for the provers. Rules are those of spec/, named by file and number.
Where a statement gives an instruction's whole next state as an update of `s`, its frame is in the equation: every
field that the update does not name, and every byte of memory, is as before. -/

open Sys2Proof Sys2Proof.Machine

/-! ### Words of the statements -/

/-- The rows of the mode table with their constructors: mode, scan lines, bytes at normal width
(41_antic_display_list R177). -/
def Sys2Proof.modeRows : List ((Bool → Option Word → Bool → Bool → Instr) × BitVec 4 × Nat × Nat) :=
  [(.mode2, 2, 8, 40), (.mode3, 3, 10, 40), (.mode4, 4, 8, 40), (.mode5, 5, 16, 40), (.mode6, 6, 8, 20),
   (.mode7, 7, 16, 20), (.mode8, 8, 8, 10), (.mode9, 9, 4, 10), (.modeA, 10, 4, 20), (.modeB, 11, 2, 20),
   (.modeC, 12, 1, 20), (.modeD, 13, 2, 40), (.modeE, 14, 1, 40), (.modeF, 15, 1, 40)]

/-- The bytes a mode line fetches, in the words of 41_antic_display_list R178. -/
def Sys2Proof.fetchedBytes (base w : Nat) (hs : Bool) : Nat :=
  if w = 0 then 0
  else if (if hs then min (w + 1) 3 else w) = 1 then base * 4 / 5
  else if (if hs then min (w + 1) 3 else w) = 2 then base
  else base * 6 / 5

/-- The displayed width in pixels (41_antic_display_list R178). -/
def Sys2Proof.widthPixels (w : Nat) : Nat := if w = 0 then 0 else if w = 1 then 256 else if w = 2 then 320 else 384

/-- The height of a mode line in the words of 41_antic_display_list R183, the wrap taken over the integers. -/
def Sys2Proof.lineHeight (lines v : Nat) (vs active : Bool) : Nat :=
  if vs && !active then ((((lines : Int) - 1 - v) % 16) + 1).toNat
  else if !vs && active then v + 1
  else lines

/-- The state after a bus read that returns `v` and changes nothing else (the outputs are the model's field, log 3). -/
def Sys2Proof.readResult (s : State) (v : Byte) : State := { s with out := { s.out with readData := some v } }

/-- The state after a bus read of a draw register: a fresh free value and nothing else (log 4). -/
def Sys2Proof.drawResult (s : State) : State :=
  { s with out := { s.out with readData := some (Config.draw s.draws) }, draws := s.draws + 1 }

/-- The state on which a tick's mode-line start runs its instruction: the counters advanced, the line's snapshot still
to come, the mode line starting here (40_antic_timing R130, 41_antic_display_list R170). -/
def Sys2Proof.modeLineState (s : State) : State :=
  { s with antic := { advanceCounters s.antic with
      snapshotDone := false, startScanLine := (advanceCounters s.antic).scanLine } }

/-- `s` makes a tick with `at_boundary = b`, and the tick runs on `s0`: a queued tick, or the idle cycle of an empty input
list, whose `at_boundary` is free (40_antic_timing R157). The list and the idle cycle are the model's choice (log 2). -/
def Sys2Proof.TicksOn (s : State) (b : Bool) (s0 : State) : Prop :=
  (∃ rest, s.inputs = .tick b :: rest ∧ s0 = beginStep rest s) ∨
  (s.inputs = [] ∧ b = Config.idleBoundary s.draws ∧ s0 = { beginStep [] s with draws := s.draws + 1 })

/-- ANTIC's zero state, field by field, with its total (10_state R22 to R39; 70_reset_and_hazards R420, R422). -/
def Sys2Proof.zeroAntic (total : Nat) : Antic where
  cycle := 0
  scanLine := 0
  totalCycles := total
  dmactl := 0
  chactl := 0
  dlist := 0
  hscrol := 0
  vscrol := 0
  pmbase := 0
  chbase := 0
  nmien := 0
  nmist := 0
  ir := 0
  videoMemory := 0
  vscrolActive := false
  voffset := 0
  startScanLine := 0
  lineHeight := 0
  nextScanLine := 0
  wsyncPending := false
  nmiPending := none
  dmaWindows := []
  snapshotDone := false

/-- Whether the 0x4000..0x7fff window of a view shows an extended bank (20_memory R73). -/
def Sys2Proof.extendedWindow (e : BankEnv) (view : View) : Bool :=
  decide (e.ramSize ≠ .k64) && !e.portb.getLsbD (if e.ramSize = .k128 ∧ view = .antic then 5 else 4)

/-- The number of the extended bank: port B bits 3:2, with bits 6:5 above them on the 320 KB machine (20_memory R73). -/
def Sys2Proof.extendedBank (e : BankEnv) : Nat :=
  e.portb.toNat / 4 % 4 + if e.ramSize = .k320 then 4 * (e.portb.toNat / 32 % 4) else 0

/-- The byte that a read's target holds outside the I/O page (20_memory R70, R72); a read of the I/O page by ANTIC, and
no other read, has none and gives 0xff. -/
def Sys2Proof.storedByte (s : State) (addr : Word) : Target → Byte
  | .ram i => s.ram i
  | .osRom i => Config.osRom (BitVec.ofNat 14 i)
  | .basic i => Config.basicRom (BitVec.ofNat 13 i)
  | .cart => Config.cartRead s.cart addr
  | .io => 0xff
  | .sink => 0xff

/-- A synthesis register after the entries due now: the value of the last one for it, or the old value
(45_pokey_synthesis R340). -/
def Sys2Proof.lastWrite (due : List TimedWrite) (reg : Fin 9) (old : Byte) : Byte :=
  ((due.filter fun w => decide (w.reg = reg)).getLast?.map (·.value)).getD old

/-- The synthesis state after the entries due now, register by register (45_pokey_synthesis R340). -/
def Sys2Proof.dueApplied (y : Synth) : Synth :=
  let due := y.pending.filter fun w => decide (w.due = y.cycle)
  { y with
    audf := #v[lastWrite due 0 y.audf[0], lastWrite due 2 y.audf[1], lastWrite due 4 y.audf[2], lastWrite due 6 y.audf[3]]
    audc := #v[lastWrite due 1 y.audc[0], lastWrite due 3 y.audc[1], lastWrite due 5 y.audc[2], lastWrite due 7 y.audc[3]]
    audctl := lastWrite due 8 y.audctl
    pending := y.pending.filter fun w => decide (w.due ≠ y.cycle) }

/-- Whether channel `k` + 1 is clocked on this cycle: by the base clock, every 28 or 114 cycles, or always where it is
fast; the low channel of a linked pair stands still, and the pair's high channel runs on the low channel's clock
(45_pokey_synthesis R342, R344, R346). -/
def Sys2Proof.clocked (y : Synth) (k : Fin 4) : Bool :=
  let base := decide (y.cycle % (if y.audctl.getLsbD 0 then 114 else 28) = 0)
  if k = 0 then !y.audctl.getLsbD 4 && (y.audctl.getLsbD 6 || base)
  else if k = 1 then (y.audctl.getLsbD 4 && y.audctl.getLsbD 6) || base
  else if k = 2 then !y.audctl.getLsbD 3 && (y.audctl.getLsbD 5 || base)
  else (y.audctl.getLsbD 3 && y.audctl.getLsbD 5) || base

/-- The reload value of channel `k` + 1: its divisor, 3 more where it is fast; a linked pair's 16-bit divisor, 6 more where
the pair is fast (45_pokey_synthesis R343, R345, R346). -/
def Sys2Proof.reloadValue (y : Synth) (k : Fin 4) : Nat :=
  if k = 0 then y.audf[0].toNat + (if y.audctl.getLsbD 6 then 3 else 0)
  else if k = 1 then
    if y.audctl.getLsbD 4 then y.audf[0].toNat + 256 * y.audf[1].toNat + (if y.audctl.getLsbD 6 then 6 else 0)
    else y.audf[1].toNat
  else if k = 2 then y.audf[2].toNat + (if y.audctl.getLsbD 5 then 3 else 0)
  else if y.audctl.getLsbD 3 then y.audf[2].toNat + 256 * y.audf[3].toNat + (if y.audctl.getLsbD 5 then 6 else 0)
  else y.audf[3].toNat

/-- The counter of channel `k` + 1 after this cycle (45_pokey_synthesis R345). -/
def Sys2Proof.countAfter (y : Synth) (k : Fin 4) : Nat :=
  if clocked y k then if y.cnt[k] = 0 then reloadValue y k else y.cnt[k] - 1 else y.cnt[k]

/-- Whether channel `k` + 1 has an event on this cycle (45_pokey_synthesis R345, R346). -/
def Sys2Proof.hasEvent (y : Synth) (k : Fin 4) : Bool := clocked y k && decide (y.cnt[k] = 0)

/-- The output flip-flop of channel `k` + 1 after this cycle, by the polynomial bits of the cycle
(45_pokey_synthesis R348, R349). -/
def Sys2Proof.outAfter (y : Synth) (k : Fin 4) : Bool :=
  if hasEvent y k && (y.audc[k].getLsbD 7 || Config.poly5 (Fin.ofNat 31 (Config.start5.val + y.cycle))) then
    if y.audc[k].getLsbD 5 then !y.outFF[k]
    else if y.audc[k].getLsbD 6 then Config.poly4 (Fin.ofNat 15 (Config.start4.val + y.cycle))
    else if y.audctl.getLsbD 7 then Config.poly9 (Fin.ofNat 511 (Config.start9.val + y.cycle))
    else Config.poly17 (Fin.ofNat 131071 (Config.start17.val + y.cycle))
  else y.outFF[k]

/-- The words of 40_antic_timing R142 for one scan line's windows. -/
def Sys2Proof.Admitted (ws : List Window) : Prop :=
  (∀ w ∈ ws, 1 ≤ w.len ∧ w.start + w.len ≤ 112) ∧ ws.Pairwise fun a b => a.start + a.len ≤ b.start

/-! ### Encodings -/

/-- 30_encoding R100 to R104, R108: no operand of a well-formed instruction is lost between encoding and decoding. The
framing of a bus access as bytes is the model's choice (log 15). -/
def Obligations.DecodeEncodeRoundTrip : Prop :=
  ∀ (i : Instr) (rest : List Byte), i.wellFormed = true → decode i.source (encode i ++ rest) = .ok (i, rest)

/-- 30_encoding R101, R102, R105: every three bytes are one instruction, whose encoding is its bytes, as many as the
first one tells. -/
def Obligations.EveryDisplayListByteDecodes : Prop :=
  ∀ b0 b1 b2 : Byte, encode (decodeDl b0 b1 b2) = [b0, b1, b2].take (dlLength b0)
    ∧ (decodeDl b0 b1 b2).source = .displayList

/-- 30_encoding R108, 20_memory R75, R76: every access to the I/O page selects a register of its own address, and no
other access selects one. -/
def Obligations.IoPageSelectsRegisters : Prop :=
  ∀ (addr : Word) (v : Byte),
    if 0xd000 ≤ addr.toNat ∧ addr.toNat ≤ 0xd7ff then
      (∃ i, decodeWrite addr v = .ok i ∧ i.wellFormed = true ∧ encode i = writeBytes addr v) ∧
      (∃ i, decodeRead addr = .ok i ∧ i.wellFormed = true ∧ encode i = readBytes addr)
    else decodeWrite addr v = .error .notIoPage ∧ decodeRead addr = .error .notIoPage

/-- Words written out from 41_antic_display_list, 42, 43, 44 and 46, and what they stand for. -/
def Obligations.SampleWordsDecode : Prop :=
  decode .displayList [0xf0] = .ok (.blank true 7, []) ∧
  decode .displayList [0x31, 0x34, 0x12] = .ok (.jmp false 3 0x1234, []) ∧
  decode .displayList [0xc1, 0x00, 0x20] = .ok (.jvb true 0 0x2000, []) ∧
  decode .displayList [0x42, 0x00, 0x40] = .ok (.mode2 false (some 0x4000) false false, []) ∧
  decode .displayList [0x3f] = .ok (.modeF false none true true, []) ∧
  decode .bus [0x1a, 0xd4, 0x00, 0x55] = .ok (.wWsync 0xd41a 0x55, []) ∧
  decode .bus [0xfb, 0xd4, 0x01] = .ok (.rVcount 0xd4fb, []) ∧
  decode .bus [0x2f, 0xd0, 0x01] = .ok (.rP3pl 0xd02f, []) ∧
  decode .bus [0x0e, 0xd2, 0x00, 0x40] = .ok (.wIrqen 0xd20e 0x40, []) ∧
  decode .bus [0xfd, 0xd3, 0x00, 0xfe] = .ok (.wPortb 0xd3fd 0xfe, []) ∧
  decode .bus [0x00, 0xd6, 0x01] = .ok (.rUnmappedD6 0xd600, [])

/-! ### Steps -/

/-- 40_antic_timing R130, R134, 41_antic_display_list R170: a tick that arrives at cycle 0 of a new mode line with
display-list DMA on runs `exec` of the instruction whose bytes stand at the display-list pointer, between the counters
(step 1) and the schedule, the NMI latch and steps (5) to (8). -/
def Obligations.TickRunsDecodedInstruction : Prop :=
  ∀ (s s0 : State) (b : Bool) (i : Instr) (bytes rest : List Byte), TicksOn s b s0 →
    (advanceCounters s.antic).cycle = 0 → isNewModeLine (advanceCounters s.antic) = true →
    s.antic.dmactl.getLsbD 5 = true →
    bytes = [memReadAntic s (dlistOffset s.antic.dlist 0), memReadAntic s (dlistOffset s.antic.dlist 1),
      memReadAntic s (dlistOffset s.antic.dlist 2)] →
    decode .displayList bytes = .ok (i, rest) →
    i.wellFormed = true ∧
    step s = andThen (andThen (exec i (modeLineState s0)) scheduleLine) (tickTail Config.visibleCycle.val b)

/-- 00_scope R8, 40_antic_timing R157, R158, 20_memory R70, R71, R75, R76: a step is its input's one action, on the state
with the input taken from the list and the outputs at rest. A bus access that selects a register runs exactly `exec` of it;
every bus access, tick, host event, drain, synthesis cycle and machine reset runs its operation, which other statements
give; with no input a step is a tick whose `at_boundary` is free. The list, the outputs and the idle tick are the model's
choices (logs 2 and 3). -/
def Obligations.InputRunsItsAction : Prop :=
  ∀ (s : State) (rest : List Input),
    let s0 : State := { s with inputs := rest, out := ⟨none, false, 0, none, none, false, []⟩ }
    beginStep rest s = s0 ∧
    (∀ addr v i, s.inputs = .write addr v :: rest → decodeWrite addr v = .ok i → step s = exec i s0) ∧
    (∀ addr i, s.inputs = .read addr :: rest → decodeRead addr = .ok i → step s = exec i s0) ∧
    (∀ addr v, s.inputs = .write addr v :: rest → step s = busWrite addr v s0) ∧
    (∀ addr, s.inputs = .read addr :: rest → step s = busRead addr s0) ∧
    (∀ b, s.inputs = .tick b :: rest → step s = tick b s0) ∧
    (∀ key pressed shift ctl, s.inputs = .keyPress key pressed shift ctl :: rest →
      step s = .next (keyPress key pressed shift ctl s0)) ∧
    (∀ source, s.inputs = .irqEvent source :: rest → step s = .next (irqEvent source s0)) ∧
    (∀ i m, s.inputs = .collide i m :: rest → step s = .next (collide i m s0)) ∧
    (∀ i pressed, s.inputs = .setTrigger i pressed :: rest → step s = .next (setTrigger i pressed s0)) ∧
    (∀ mux source mask, s.inputs = .muxSet mux source mask :: rest → step s = .next (muxSet mux source mask s0)) ∧
    (s.inputs = .audioDrain :: rest → step s = .next (audioDrain s0)) ∧
    (s.inputs = .synthCycle :: rest → step s = .next (synthCycle s0)) ∧
    (s.inputs = .machineReset :: rest → step s = .next (machineReset s0)) ∧
    (s.inputs = [] → rest = [] →
      step s = tick (Config.idleBoundary s.draws) { s0 with draws := s.draws + 1 })

/-- 60_exceptions R390, R391, 20_memory R81: no step faults or refuses. Refusals are of a configuration and come before
the first step: power-on always has an answer; it is the power-on state exactly where every parameter is in its domain, and
otherwise it can only be a refusal that names a parameter outside its domain. The machine's own configuration starts. -/
def Obligations.EveryStepCompletes : Prop :=
  (∀ s : State, Completes (step s)) ∧
  (∀ h : Handed,
    (∃ o, Start h o) ∧
    (Start h (.next State.reset) ↔
      (h.ramSize = 65536 ∨ h.ramSize = 131072 ∨ h.ramSize = 327680) ∧ h.osRom.length = 16384 ∧
      (∀ b, h.basicRom = some b → b.length = 8192) ∧ (∀ c, h.cartridge = some c → cartTotal c) ∧
      (∀ k, Admitted (h.dmaSchedule k)) ∧ h.visibleCycle ≤ 113 ∧ h.volumeCurve 0 = 0 ∧
      ∀ i j : Fin 61, i ≤ j → h.volumeCurve i ≤ h.volumeCurve j) ∧
    ∀ o, Start h o → o ≠ .next State.reset → ¬ Start h (.next State.reset) ∧
      ∃ r, configBreaks h r ∧ o = .refused (.configuration r)) ∧
  ∀ o, Start configInUse o → o = .next State.reset

/-- The invariant at power-on. -/
def Obligations.ResetMeetsInv : Prop := Inv State.reset

/-- The invariant of the machine is kept by every step, from every state that meets it: raster counters in range (10_state
R22, R23), windows of R142, NMIST exclusion (R152), NMIs fired in their line (R151), one snapshot a line (R155),
collision nibbles (R43), memory in its form and bounds (R54, R73), queue order (R48). -/
def Obligations.StepKeepsInv : Prop := ∀ s t : State, Inv s → step s = .next t → Inv t

/-- 70_reset_and_hazards R422, 10_state R58, 45_pokey_synthesis R341: every power-on value that the spec gives, field by
field, and what the CPU and the bank logic see of it; RAM holds its draw, a free value. The cartridge and the model's own
fields are left out: their values are the model's choices (logs 2 to 5). -/
def Obligations.PowerOnValues : Prop :=
  State.reset.antic = zeroAntic 0 ∧
  State.reset.gtia = ⟨Vector.replicate 32 0, Vector.replicate 4 0, 0, 0, 0, Vector.replicate 16 0, Vector.replicate 4 1⟩ ∧
  State.reset.pokey = ⟨0, 0xff, 0xff, 0xff, 0, 0, 0, 0, 0, []⟩ ∧
  State.reset.pia = ⟨0, 0, 0, 0, 0, 0⟩ ∧
  (∀ source, Memory.read unsetMask State.reset.joyMux source = 0 ∧
    Memory.read unsetMask State.reset.consolMux source = 0) ∧
  (∀ i, State.reset.ram i = Config.ramPowerOn i) ∧
  State.reset.synth = ⟨Vector.replicate 4 0, Vector.replicate 4 0, 0, Vector.replicate 4 0, Vector.replicate 4 false,
    Vector.replicate 2 false, 0, [], []⟩ ∧
  portbEff State.reset.pia = 0xff ∧ portaIn State.reset = 0xff ∧ nmistRead State.reset.antic = 0x1f ∧
  irqLine State.reset.pokey = false

/-! ### Display-list instructions -/

/-- 41_antic_display_list R172, R187: the next state of BLANK, whole. -/
def Obligations.BlankResult : Prop :=
  ∀ (dli : Bool) (n : BitVec 3) (s : State),
    exec (.blank dli n) s = .next { s with
      antic := { s.antic with
        ir := blankByte dli n
        lineHeight := n.toNat + 1
        voffset := 0
        dlist := dlistOffset s.antic.dlist 1
        nextScanLine :=
          if s.antic.startScanLine + (n.toNat + 1) < 248 then s.antic.startScanLine + (n.toNat + 1) else 8 }
      out := { s.out with descr := some {
        mode := 0
        opts := BitVec.ofBool dli ++ n
        width := widthPixels (s.antic.dmactl.toNat % 4)
        height := n.toNat + 1
        nBytes := 0
        voffset := 0
        videoOffset := s.antic.videoMemory
        charsetBase := s.antic.chbase ++ 0#8
        pmBase := s.antic.pmbase ++ 0#8
        hscrol := 0 } } }

/-- 41_antic_display_list R173, R174, R175, R187: the next state of JMP and of JVB, whole. JMP's next mode line follows
at once, JVB's waits for line 8. -/
def Obligations.JumpResults : Prop :=
  ∀ (dli : Bool) (x : BitVec 2) (target : Word) (s : State),
    let after (jvb : Bool) (next : Nat) : State := { s with
      antic := { s.antic with
        ir := BitVec.ofBool dli ++ BitVec.ofBool jvb ++ x ++ 1#4
        lineHeight := 1
        voffset := 0
        dlist := target
        nextScanLine := next }
      out := { s.out with descr := some {
        mode := 1
        opts := BitVec.ofBool dli ++ BitVec.ofBool jvb ++ x
        width := widthPixels (s.antic.dmactl.toNat % 4)
        height := 1
        nBytes := 0
        voffset := 0
        videoOffset := s.antic.videoMemory
        charsetBase := s.antic.chbase ++ 0#8
        pmBase := s.antic.pmbase ++ 0#8
        hscrol := 0 } } }
    exec (.jmp dli x target) s =
        .next (after false (if s.antic.startScanLine + 1 < 248 then s.antic.startScanLine + 1 else 8)) ∧
      exec (.jvb dli x target) s = .next (after true 8)

/-- 41_antic_display_list R176 to R185, R187, R188, R190 to R203: the next state of every display mode line, whole, in
the numbers of the mode table. -/
def Obligations.DisplayModeResults : Prop :=
  ∀ row ∈ modeRows, ∀ (dli : Bool) (lms : Option Word) (vs hs : Bool) (s : State),
    let v := s.antic.vscrol.toNat % 16
    let h := lineHeight row.2.2.1 v vs s.antic.vscrolActive
    let n := fetchedBytes row.2.2.2 (s.antic.dmactl.toNat % 4) hs
    let vm := lms.getD s.antic.videoMemory
    let voff : BitVec 4 := if vs && !s.antic.vscrolActive then BitVec.ofNat 4 v else 0
    exec (row.1 dli lms vs hs) s = .next { s with
      antic := { s.antic with
        ir := BitVec.ofBool dli ++ BitVec.ofBool lms.isSome ++ BitVec.ofBool vs ++ BitVec.ofBool hs ++ row.2.1
        dlist := dlistOffset s.antic.dlist (if lms.isSome then 3 else 1)
        lineHeight := h
        voffset := voff
        vscrolActive := vs
        videoMemory := (vm &&& 0xf000) ||| ((vm + BitVec.ofNat 16 n) &&& 0x0fff)
        nextScanLine := if s.antic.startScanLine + h < 248 then s.antic.startScanLine + h else 8 }
      out := { s.out with descr := some {
        mode := row.2.1
        opts := BitVec.ofBool dli ++ BitVec.ofBool lms.isSome ++ BitVec.ofBool vs ++ BitVec.ofBool hs
        width := widthPixels (s.antic.dmactl.toNat % 4)
        height := h
        nBytes := n
        voffset := voff
        videoOffset := vm
        charsetBase := s.antic.chbase ++ 0#8
        pmBase := s.antic.pmbase ++ 0#8
        hscrol := if hs then s.antic.hscrol.setWidth 4 else 0 } } }

/-- The frame of the display-list instructions: they change the display-list state of ANTIC and the descriptor output,
and no chip, no byte of memory and no other ANTIC register (41_antic_display_list R170, R205). -/
def Obligations.DisplayListFrame : Prop :=
  ∀ (i : Instr) (s t : State), i.source = .displayList → exec i s = .next t →
    (∀ a, t.ram a = s.ram a) ∧ t.gtia = s.gtia ∧ t.pokey = s.pokey ∧ t.pia = s.pia ∧
    t.joyMux = s.joyMux ∧ t.consolMux = s.consolMux ∧ t.cart = s.cart ∧ t.synth = s.synth ∧ t.inputs = s.inputs ∧
    t.draws = s.draws ∧ t.out = { s.out with descr := t.out.descr } ∧
    t.antic = { s.antic with
      ir := t.antic.ir, dlist := t.antic.dlist, videoMemory := t.antic.videoMemory
      vscrolActive := t.antic.vscrolActive, voffset := t.antic.voffset, lineHeight := t.antic.lineHeight
      nextScanLine := t.antic.nextScanLine }

/-- 10_state R27: the display-list pointer counts inside its 1 KB page. -/
def Obligations.DisplayListPointerWrapsInPage : Prop :=
  ∀ (d : Word) (k : Nat),
    (dlistOffset d k).toNat = d.toNat / 1024 * 1024 + (d.toNat + k) % 1024

/-- 41_antic_display_list R171, R204, R187: with display-list DMA off a mode-line start is a one-line blank: nothing is
fetched, the pointers and the VSCROL flag stay, and the next mode line starts on the next visible line. The whole next
state. -/
def Obligations.DefaultLineWithoutDma : Prop :=
  ∀ s : State, s.antic.dmactl.getLsbD 5 = false →
    prepareModeLine s = .next { s with
      antic := { s.antic with
        startScanLine := s.antic.scanLine
        ir := 0
        lineHeight := 1
        voffset := 0
        nextScanLine := if s.antic.scanLine + 1 < 248 then s.antic.scanLine + 1 else 8 }
      out := { s.out with descr := some {
        mode := 0
        opts := 0
        width := widthPixels (s.antic.dmactl.toNat % 4)
        height := 1
        nBytes := 0
        voffset := 0
        videoOffset := s.antic.videoMemory
        charsetBase := s.antic.chbase ++ 0#8
        pmBase := s.antic.pmbase ++ 0#8
        hscrol := 0 } } }

/-- 41_antic_display_list R188: after every mode-line start the next scan line is the sum when it is below 248 and 8
otherwise; the JVB instruction alone sets 8 whatever the sum. -/
def Obligations.NextScanLineAfterModeLineStart : Prop :=
  ∀ s t : State, prepareModeLine s = .next t →
    t.antic.startScanLine = s.antic.scanLine ∧
    t.antic.nextScanLine =
      if t.antic.ir &&& 0x4f = 0x41 then 8
      else if t.antic.startScanLine + t.antic.lineHeight < 248 then t.antic.startScanLine + t.antic.lineHeight
      else 8

/-- 40_antic_timing R130, R133, R134, 41_antic_display_list R175: the composition of every tick. Inside a line: the
counters and steps (5) to (8); at cycle 0: the snapshot flag cleared, a mode-line start where one is due, the schedule and
then the NMI latch, and steps (5) to (8); those four are WSYNC, the NMI fire, the snapshot and the steals, in this order.
A tick that starts no mode line emits no descriptor and leaves the display-list state alone; in particular, while the next
scan line is 8 (after a JVB), only line 8 starts one. -/
def Obligations.TickComposition : Prop :=
  (∀ (s s0 : State) (b : Bool), TicksOn s b s0 →
    let a := advanceCounters s.antic
    let s1 := { s0 with antic := { a with snapshotDone := false } }
    (a.cycle ≠ 0 → step s = .next (tickTail Config.visibleCycle.val b { s0 with antic := a })) ∧
    (a.cycle = 0 → isNewModeLine a = false →
      step s = .next (tickTail Config.visibleCycle.val b (scheduleLine s1))) ∧
    (a.cycle = 0 → isNewModeLine a = true →
      ∃ u, prepareModeLine s1 = .next u ∧ step s = .next (tickTail Config.visibleCycle.val b (scheduleLine u)))) ∧
  (∀ (vc : Nat) (b : Bool) (u : State),
    tickTail vc b u = applySteals (snapshotIfDue vc (fireIfDue (applyWsync b u))) ∧
    scheduleLine u = { u with antic := checkNmi (scheduleWindows Config.dmaSchedule.table u.antic) }) ∧
  (∀ a : Antic, isNewModeLine a = true ↔
    (8 ≤ a.scanLine ∧ a.scanLine < 248) ∧ (a.scanLine = 8 ∨ a.scanLine = a.nextScanLine)) ∧
  ∀ (s s0 t : State) (b : Bool), TicksOn s b s0 → step s = .next t →
    (¬ ((advanceCounters s.antic).cycle = 0 ∧ isNewModeLine (advanceCounters s.antic) = true) →
      t.out.descr = none ∧ t.antic.ir = s.antic.ir ∧ t.antic.dlist = s.antic.dlist ∧
      t.antic.videoMemory = s.antic.videoMemory ∧ t.antic.vscrolActive = s.antic.vscrolActive ∧
      t.antic.voffset = s.antic.voffset ∧ t.antic.startScanLine = s.antic.startScanLine ∧
      t.antic.lineHeight = s.antic.lineHeight ∧ t.antic.nextScanLine = s.antic.nextScanLine) ∧
    (s.antic.nextScanLine = 8 → t.out.descr ≠ none → t.antic.scanLine = 8)

/-! ### ANTIC registers -/

/-- 42_antic_registers R210 to R220: each write stores its register at once (DLISTL and DLISTH a half of the
display-list pointer, WSYNC the request for a stall, NMIRES zero in NMIST) and changes nothing else. -/
def Obligations.AnticWriteResults : Prop :=
  ∀ (addr : Word) (v : Byte) (s : State),
    exec (.wDmactl addr v) s = .next { s with antic := { s.antic with dmactl := v } } ∧
    exec (.wChactl addr v) s = .next { s with antic := { s.antic with chactl := v } } ∧
    exec (.wHscrol addr v) s = .next { s with antic := { s.antic with hscrol := v } } ∧
    exec (.wVscrol addr v) s = .next { s with antic := { s.antic with vscrol := v } } ∧
    exec (.wPmbase addr v) s = .next { s with antic := { s.antic with pmbase := v } } ∧
    exec (.wChbase addr v) s = .next { s with antic := { s.antic with chbase := v } } ∧
    exec (.wWsync addr v) s = .next { s with antic := { s.antic with wsyncPending := true } } ∧
    exec (.wNmien addr v) s = .next { s with antic := { s.antic with nmien := v } } ∧
    exec (.wNmires addr v) s = .next { s with antic := { s.antic with nmist := 0 } } ∧
    exec (.wDlistl addr v) s =
      .next { s with antic := { s.antic with dlist := (s.antic.dlist &&& 0xff00) ||| v.setWidth 16 } } ∧
    exec (.wDlisth addr v) s =
      .next { s with antic := { s.antic with dlist := (s.antic.dlist &&& 0x00ff) ||| (v.setWidth 16 <<< 8) } }

/-- 42_antic_registers R226, 44_pokey_registers R316, 20_memory R76: a write to an offset or a page that selects no
register changes no state. -/
def Obligations.UnusedWritesChangeNothing : Prop :=
  ∀ (addr : Word) (v : Byte) (s : State),
    ∀ mk ∈ [Instr.wAnticUnused6, .wAnticUnused8, .wAnticUnusedb, .wAnticUnusedc, .wAnticUnusedd, .wPokeyUnusedc,
      .wUnmappedD1, .wUnmappedD6, .wUnmappedD7], exec (mk addr v) s = .next s

/-- 42_antic_registers R222, 43_gtia R294, 44_pokey_registers R328, 20_memory R75, R77: every write-only or unused read
offset and every page without a chip reads 0xff, and the read changes nothing else. -/
def Obligations.OpenBusReads : Prop :=
  ∀ (addr : Word) (s : State),
    ∀ mk ∈ [Instr.rAntic0Ff, .rAntic1Ff, .rAntic2Ff, .rAntic3Ff, .rAntic4Ff, .rAntic5Ff, .rAntic6Ff, .rAntic7Ff,
      .rAntic8Ff, .rAntic9Ff, .rAnticaFf, .rAnticeFf, .rGtia15Ff, .rGtia16Ff, .rGtia17Ff, .rGtia18Ff, .rGtia19Ff,
      .rGtia1aFf, .rGtia1bFf, .rGtia1cFf, .rGtia1dFf, .rGtia1eFf, .rPokeybFf, .rPokeycFf, .rUnmappedD1, .rUnmappedD6,
      .rUnmappedD7], exec (mk addr) s = .next (readResult s 0xff)

/-- 42_antic_registers R224, R225, 44_pokey_registers R317 to R325, R327, R329: these reads complete with a free value
and change nothing but the counter of free values. -/
def Obligations.DrawReads : Prop :=
  ∀ (addr : Word) (s : State),
    ∀ mk ∈ [Instr.rPenh, .rPenv, .rPot0, .rPot1, .rPot2, .rPot3, .rPot4, .rPot5, .rPot6, .rPot7, .rAllpot, .rRandom,
      .rSerin], exec (mk addr) s = .next (drawResult s)

/-- 42_antic_registers R221, R223, 44_pokey_registers R326, R330, R331: NMIST, VCOUNT, KBCODE, IRQST and SKSTAT are read
without any other effect. -/
def Obligations.StatusReads : Prop :=
  ∀ (addr : Word) (s : State),
    exec (.rNmist addr) s = .next (readResult s (s.antic.nmist ||| 0x1f)) ∧
    exec (.rVcount addr) s = .next (readResult s (BitVec.ofNat 8
      (if 110 ≤ s.antic.cycle then ((s.antic.scanLine + 1) % 312) >>> 1 else s.antic.scanLine >>> 1))) ∧
    exec (.rKbcode addr) s = .next (readResult s s.pokey.kbcode) ∧
    exec (.rIrqst addr) s = .next (readResult s s.pokey.irqst) ∧
    exec (.rSkstat addr) s = .next (readResult s s.pokey.skstat)

/-! ### GTIA registers -/

/-- 43_gtia R242 to R253: positions and sizes are stored in the raw file, and nothing else changes. -/
def Obligations.GtiaPositionAndSizeWrites : Prop :=
  ∀ (addr : Word) (v : Byte) (s : State),
    ∀ row ∈ ([(.wHposp1, 0x01), (.wHposp2, 0x02), (.wHposp3, 0x03), (.wHposm0, 0x04), (.wHposm1, 0x05),
      (.wHposm2, 0x06), (.wHposm3, 0x07), (.wSizep0, 0x08), (.wSizep1, 0x09), (.wSizep2, 0x0a), (.wSizep3, 0x0b),
      (.wSizem, 0x0c)] : List ((Word → Byte → Instr) × Fin 32)),
      exec (row.1 addr v) s = .next { s with gtia := { s.gtia with regs := s.gtia.regs.set row.2 v } }

/-- 43_gtia R259 to R267, R269, R270, R272: colours, VDELAY, GRACTL and CONSOL are stored in the raw file, and nothing
else changes. -/
def Obligations.GtiaColourAndControlWrites : Prop :=
  ∀ (addr : Word) (v : Byte) (s : State),
    ∀ row ∈ ([(.wColpm0, 0x12), (.wColpm1, 0x13), (.wColpm2, 0x14), (.wColpm3, 0x15), (.wColpf0, 0x16),
      (.wColpf1, 0x17), (.wColpf2, 0x18), (.wColpf3, 0x19), (.wColbk, 0x1a), (.wVdelay, 0x1c), (.wGractl, 0x1d),
      (.wConsolW, 0x1f)] : List ((Word → Byte → Instr) × Fin 32)),
      exec (row.1 addr v) s = .next { s with gtia := { s.gtia with regs := s.gtia.regs.set row.2 v } }

/-- 43_gtia R241, R254 to R258, R268, R271: the writes with a side effect: the raw store and that effect, and nothing
else. What HPOSP0 accepts is free (R241). -/
def Obligations.GtiaSideEffectWrites : Prop :=
  ∀ (addr : Word) (v : Byte) (s : State),
    exec (.wHposp0 addr v) s = .next { s with gtia := { s.gtia with
      regs := s.gtia.regs.set 0x00 v
      hposp0Filtered := if Config.hposp0Accept v then v else s.gtia.hposp0Filtered } } ∧
    (∀ row ∈ ([(.wGrafp0, 0x0d, 0), (.wGrafp1, 0x0e, 1), (.wGrafp2, 0x0f, 2), (.wGrafp3, 0x10, 3)] :
        List ((Word → Byte → Instr) × Fin 32 × Fin 4)),
      exec (row.1 addr v) s = .next { s with gtia := { s.gtia with
        regs := s.gtia.regs.set row.2.1 v
        playerGraphics := s.gtia.playerGraphics.set row.2.2 v } }) ∧
    exec (.wGrafm addr v) s =
      .next { s with gtia := { s.gtia with regs := s.gtia.regs.set 0x11 v, missileGraphics := v } } ∧
    exec (.wPrior addr v) s =
      .next { s with gtia := { s.gtia with regs := s.gtia.regs.set 0x1b v, prior := v } } ∧
    exec (.wHitclr addr v) s =
      .next { s with gtia := { s.gtia with
        regs := s.gtia.regs.set 0x1e v
        collisions := Vector.replicate 16 0 } }

/-- 43_gtia R240, R299: whatever its mirror, a bus write to page 0xd0 stores the byte in the raw file at `addr & 0x1f`
and changes no other raw register, and writes nothing outside GTIA. -/
def Obligations.GtiaPageStoresRaw : Prop :=
  ∀ (addr : Word) (v : Byte) (s : State), addr &&& 0xff00 = 0xd000 →
    ∃ t, busWrite addr v s = .next t ∧ t = { s with gtia := t.gtia } ∧ t.gtia.trig = s.gtia.trig ∧
      ∀ o : Fin 32, t.gtia.regs[o] = if o.val = addr.toNat % 32 then v else s.gtia.regs[o]

/-- 43_gtia R273 to R278, R281 to R286: collision reads. -/
def Obligations.CollisionReads : Prop :=
  ∀ (addr : Word) (s : State),
    ∀ row ∈ ([(.rM0pf, 0), (.rM1pf, 1), (.rM2pf, 2), (.rM3pf, 3), (.rP0pf, 4), (.rP1pf, 5), (.rM0pl, 8), (.rM1pl, 9),
      (.rM2pl, 10), (.rM3pl, 11), (.rP0pl, 12), (.rP1pl, 13)] : List ((Word → Instr) × Fin 16)),
      exec (row.1 addr) s = .next (readResult s s.gtia.collisions[row.2])

/-- 43_gtia R279, R280, R287 to R293, R295: the last collision reads, the hard-wired ones, triggers, PAL and CONSOL. -/
def Obligations.OtherGtiaReads : Prop :=
  ∀ (addr : Word) (s : State),
    exec (.rP2pf addr) s = .next (readResult s 0xff) ∧ exec (.rP3pf addr) s = .next (readResult s 0xff) ∧
    exec (.rP2pl addr) s = .next (readResult s s.gtia.collisions[14]) ∧
    exec (.rP3pl addr) s = .next (readResult s s.gtia.collisions[15]) ∧
    exec (.rTrig0 addr) s = .next (readResult s (0#7 ++ s.gtia.trig[0])) ∧
    exec (.rTrig1 addr) s = .next (readResult s (0#7 ++ s.gtia.trig[1])) ∧
    exec (.rTrig2 addr) s = .next (readResult s (0#7 ++ s.gtia.trig[2])) ∧
    exec (.rTrig3 addr) s = .next (readResult s (0#7 ++ s.gtia.trig[3])) ∧
    exec (.rPal addr) s = .next (readResult s 0x01) ∧ exec (.rConsol addr) s = .next (readResult s 0x0f)

/-- 10_state R43, 43_gtia R271, R296: whatever the step, a collision bit that is set stays set, unless the step is a bus
write that selects HITCLR, after which every collision register is 0. -/
def Obligations.CollisionsClearedOnlyByHitclr : Prop :=
  ∀ s t : State, step s = .next t →
    ((∃ addr v rest, s.inputs = .write addr v :: rest ∧ addr &&& 0xff1f = 0xd01e) →
      ∀ i : Fin 16, t.gtia.collisions[i] = 0) ∧
    ((¬ ∃ addr v rest, s.inputs = .write addr v :: rest ∧ addr &&& 0xff1f = 0xd01e) →
      ∀ i : Fin 16, s.gtia.collisions[i] &&& t.gtia.collisions[i] = s.gtia.collisions[i])

/-! ### POKEY registers, keyboard and IRQ -/

/-- 44_pokey_registers R300 to R309: an audio write appends one entry with the total-cycle timestamp and changes nothing
else. -/
def Obligations.AudioWritesQueue : Prop :=
  ∀ (addr : Word) (v : Byte) (s : State),
    ∀ row ∈ ([(.wAudf1, 0), (.wAudc1, 1), (.wAudf2, 2), (.wAudc2, 3), (.wAudf3, 4), (.wAudc3, 5), (.wAudf4, 6),
      (.wAudc4, 7), (.wAudctl, 8)] : List ((Word → Byte → Instr) × Fin 9)),
      exec (row.1 addr v) s = .next { s with pokey := { s.pokey with
        audioQueue := s.pokey.audioQueue ++ [⟨s.antic.totalCycles, row.2, v⟩] } }

/-- 44_pokey_registers R310 to R315: the immediate writes. -/
def Obligations.PokeyImmediateWrites : Prop :=
  ∀ (addr : Word) (v : Byte) (s : State),
    exec (.wStimer addr v) s = .next { s with pokey := { s.pokey with stimer := v } } ∧
    exec (.wSkres addr v) s = .next { s with pokey := { s.pokey with skres := v } } ∧
    exec (.wPotgo addr v) s = .next { s with pokey := { s.pokey with potgo := v } } ∧
    exec (.wSerout addr v) s = .next { s with pokey := { s.pokey with serout := v } } ∧
    exec (.wSkctl addr v) s = .next { s with pokey := { s.pokey with skctl := v } } ∧
    exec (.wIrqen addr v) s = .next { s with pokey := { s.pokey with
      irqen := v
      irqst := s.pokey.irqst ||| (v ^^^ 0xff) } }

/-- 44_pokey_registers R314, R335, 60_exceptions R395: a bit of IRQEN written as 0 ends that source's request, a bit
written as 1 leaves the source's status alone, and the IRQ level drops when no enabled source requests. -/
def Obligations.IrqenAcknowledges : Prop :=
  ∀ (addr : Word) (v : Byte) (s t : State), exec (.wIrqen addr v) s = .next t →
    (∀ b : Fin 8, t.pokey.irqst.getLsbD b = (s.pokey.irqst.getLsbD b || !v.getLsbD b)) ∧
    (irqLine t.pokey = true ↔ ∃ b : Fin 8, v.getLsbD b = true ∧ s.pokey.irqst.getLsbD b = false)

/-- 44_pokey_registers R332, R333: a key event, whatever the key: an unmapped key does nothing, a press of a mapped key
latches its code and pulls the status bits low, a release raises both SKSTAT bits. Which keys are mapped, and to what, is a
parameter (log 9), but for the key A without modifiers and the key `[`, which are written out. -/
def Obligations.KeyPressResults : Prop :=
  (∀ (s : State) (key : HostKey) (shift ctl : Bool),
    (keyMap key shift ctl = none → ∀ pressed, keyPress key pressed shift ctl s = s) ∧
    ∀ (code : BitVec 6) (sh ct : Bool), keyMap key shift ctl = some (code, sh, ct) →
      keyPress key true shift ctl s = { s with
        pokey := { s.pokey with
          kbcode := BitVec.ofNat 8 (code.toNat + (if sh then 64 else 0) + if ct then 128 else 0)
          skstat := (s.pokey.skstat &&& 0xf3) ||| if sh then 0 else 0x08
          irqst := s.pokey.irqst &&& 0xbf }
        out := { s.out with irq := s.pokey.irqen.getLsbD 6 } } ∧
      keyPress key false shift ctl s = { s with pokey := { s.pokey with skstat := s.pokey.skstat ||| 0x0c } }) ∧
  keyMap .a false false = some (0x3f, false, false) ∧
  (∀ shift ctl, keyMap .leftBracket shift ctl = some (0x20, true, ctl)) ∧
  ∀ (s : State) (shift ctl : Bool),
    keyPress .a true false false s = { s with
      pokey := { s.pokey with
        kbcode := 0x3f
        skstat := (s.pokey.skstat &&& 0xfb) ||| 0x08
        irqst := s.pokey.irqst &&& 0xbf }
      out := { s.out with irq := s.pokey.irqen.getLsbD 6 } } ∧
    keyPress .a false false false s = { s with pokey := { s.pokey with skstat := s.pokey.skstat ||| 0x0c } } ∧
    keyPress .leftBracket true shift ctl s = { s with
      pokey := { s.pokey with
        kbcode := if ctl then 0xe0 else 0x60
        skstat := s.pokey.skstat &&& 0xf3
        irqst := s.pokey.irqst &&& 0xbf }
      out := { s.out with irq := s.pokey.irqen.getLsbD 6 } }

/-- 44_pokey_registers R334: an environment event requests only when its source is enabled; a disabled source's event
changes nothing. -/
def Obligations.IrqEventGated : Prop :=
  ∀ (s : State),
    ∀ row ∈ [(IrqSource.timer1, 0), (.timer2, 1), (.timer4, 2), (.serialOutDone, 3), (.serialOutNeeded, 4),
      (.serialIn, 5), (.breakKey, 7)],
      irqEvent row.1 s =
        if s.pokey.irqen.getLsbD row.2 then { s with
          pokey := { s.pokey with irqst := s.pokey.irqst &&& ~~~(1#8 <<< row.2) }
          out := { s.out with irq := true } }
        else s

/-! ### PIA, Multiplexers and banking -/

/-- 46_pia_and_inputs R370 to R373: the PIA writes. -/
def Obligations.PiaWriteResults : Prop :=
  ∀ (addr : Word) (v : Byte) (s : State),
    exec (.wPorta addr v) s = .next { s with pia := { s.pia with
      portaOut := if s.pia.pactl.getLsbD 2 then v else s.pia.portaOut
      portaDdr := if s.pia.pactl.getLsbD 2 then s.pia.portaDdr else v } } ∧
    exec (.wPortb addr v) s = .next { s with pia := { s.pia with
      portbOut := if s.pia.pbctl.getLsbD 2 then v else s.pia.portbOut
      portbDdr := if s.pia.pbctl.getLsbD 2 then s.pia.portbDdr else v } } ∧
    exec (.wPactl addr v) s = .next { s with pia := { s.pia with pactl := v &&& 0x3f } } ∧
    exec (.wPbctl addr v) s = .next { s with pia := { s.pia with pbctl := v &&& 0x3f } }

/-- 46_pia_and_inputs R374 to R377, R381: the PIA reads, bit by bit for the port pins. -/
def Obligations.PiaReadResults : Prop :=
  ∀ (addr : Word) (s : State),
    (∃ x, exec (.rPorta addr) s = .next (readResult s x) ∧ ∀ b : Fin 8, x.getLsbD b =
      if s.pia.pactl.getLsbD 2 then
        (if s.pia.portaDdr.getLsbD b then s.pia.portaOut.getLsbD b else !(muxOut s.joyMux).getLsbD b)
      else s.pia.portaDdr.getLsbD b) ∧
    (∃ x, exec (.rPortb addr) s = .next (readResult s x) ∧ ∀ b : Fin 8, x.getLsbD b =
      if s.pia.pbctl.getLsbD 2 then (!s.pia.portbDdr.getLsbD b || s.pia.portbOut.getLsbD b)
      else s.pia.portbDdr.getLsbD b) ∧
    exec (.rPactl addr) s = .next (readResult s (s.pia.pactl &&& 0x3f)) ∧
    exec (.rPbctl addr) s = .next (readResult s (s.pia.pbctl &&& 0x3f))

/-- 20_memory R75, R76, R67: the cartridge page, with and without a cartridge. -/
def Obligations.CartridgePageResults : Prop :=
  ∀ (addr : Word) (v : Byte) (s : State),
    exec (.wCartctl addr v) s =
      .next (if Config.cartPresent then { s with cart := Config.cartWrite s.cart addr v } else s) ∧
    exec (.rCartctl addr) s =
      .next (readResult s (if Config.cartPresent then Config.cartRead s.cart addr else 0xff))

/-- 46_pia_and_inputs R380, R381: a line of a Multiplexer is pressed exactly when some source presses it, and setting one
source leaves every other source's mask alone. -/
def Obligations.MultiplexerOrsSources : Prop :=
  (∀ (m : List Host.Cell) (b : Fin 8), Memory.wf unsetMask m = true →
    ((muxOut m).getLsbD b = true ↔ ∃ source, (Memory.read unsetMask m source).getLsbD b = true)) ∧
  ∀ (mux : MuxId) (source other : Nat) (mask : Byte) (s : State),
    Memory.read unsetMask (muxSet .joystick source mask s).joyMux other =
      (if other = source then mask else Memory.read unsetMask s.joyMux other) ∧
    Memory.read unsetMask (muxSet .console source mask s).consolMux other =
      (if other = source then mask else Memory.read unsetMask s.consolMux other) ∧
    muxSet mux source mask s = { s with
      joyMux := (muxSet mux source mask s).joyMux
      consolMux := (muxSet mux source mask s).consolMux } ∧
    ((muxSet .joystick source mask s).consolMux = s.consolMux ∧ (muxSet .console source mask s).joyMux = s.joyMux)

/-- 20_memory R63 to R66, R68, R70, R72 to R74: what every access resolves to, for both views and both kinds and every
value of the latch, and the byte that a read then gives: the I/O page first; the OS ROM by port B bit 0; the cartridge,
then BASIC by bit 1; an extended bank, selected and numbered by R73; the self-test ROM by bits 0 and 7; else RAM at its own
address. A write reaches RAM or the sink. RAM stays inside the configured size. -/
def Obligations.BankResolution : Prop :=
  (∀ (e : BankEnv) (view : View) (kind : AccessKind) (addr : Word),
    let a := addr.toNat
    let rom (t : Target) : Target := if kind = .read then t else .sink
    resolve e view kind addr =
      if 0xd000 ≤ a ∧ a ≤ 0xd7ff then .io
      else if 0xc000 ≤ a then if e.portb.getLsbD 0 then rom (.osRom (a - 0xc000)) else .ram a
      else if 0xa000 ≤ a then
        if e.cartEnabled then rom .cart
        else if e.basicPresent ∧ e.portb.getLsbD 1 = false then rom (.basic (a - 0xa000))
        else .ram a
      else if a < 0x4000 ∨ 0x8000 ≤ a then .ram a
      else if extendedWindow e view then .ram (0x10000 + 0x4000 * extendedBank e + (a - 0x4000))
      else if 0x5000 ≤ a ∧ a < 0x5800 ∧ e.portb.getLsbD 0 = true ∧ e.portb.getLsbD 7 = false then
        rom (.osRom (a - 0x4000))
      else .ram a) ∧
  (∀ (e : BankEnv) (view : View) (kind : AccessKind) (addr : Word),
    (resolve e view kind addr = .io ↔ 0xd000 ≤ addr.toNat ∧ addr.toNat ≤ 0xd7ff) ∧
    ∀ i, resolve e view kind addr = .ram i → i < e.ramSize.bytes ∧
      (i ≠ addr.toNat → 0x4000 ≤ addr.toNat ∧ addr.toNat ≤ 0x7fff ∧ 0x10000 ≤ i ∧ i % 0x4000 = addr.toNat % 0x4000)) ∧
  ∀ (s : State) (addr : Word),
    s.bankEnv.ramSize = Config.ramSize ∧ s.bankEnv.basicPresent = Config.basicPresent ∧
    s.bankEnv.cartEnabled = (Config.cartPresent && Config.cartIsEnabled s.cart) ∧
    (∀ b : Fin 8, s.bankEnv.portb.getLsbD b = (!s.pia.portbDdr.getLsbD b || s.pia.portbOut.getLsbD b)) ∧
    memReadAntic s addr = storedByte s addr (resolve s.bankEnv .antic .read addr) ∧
    (0xd000 ≤ addr.toNat → addr.toNat ≤ 0xd7ff → memReadAntic s addr = 0xff) ∧
    (¬ (0xd000 ≤ addr.toNat ∧ addr.toNat ≤ 0xd7ff) →
      busRead addr s = .next (readResult s (storedByte s addr (resolve s.bankEnv .cpu .read addr))))

/-- 20_memory R60, R73, R79: the two views differ only inside 0x4000..0x7fff, only on the 128 KB machine, and only while
the two select bits differ. -/
def Obligations.ViewsDifferOnlyInWindow : Prop :=
  ∀ (e : BankEnv) (kind : AccessKind) (addr : Word), resolve e .cpu kind addr ≠ resolve e .antic kind addr →
    0x4000 ≤ addr.toNat ∧ addr.toNat ≤ 0x7fff ∧ e.ramSize = .k128 ∧ e.portb.getLsbD 4 ≠ e.portb.getLsbD 5

/-- 20_memory R70, R71, R74: a bus write outside the I/O page changes at most the RAM byte its address resolves to, and
a read of the same address returns it; where the address resolves to no RAM the write changes nothing. -/
def Obligations.CpuWriteReachesItsByte : Prop :=
  ∀ (addr : Word) (v : Byte) (s : State), ¬ (0xd000 ≤ addr.toNat ∧ addr.toNat ≤ 0xd7ff) →
    ∃ t, busWrite addr v s = .next t ∧ t = { s with mem := t.mem } ∧
      (∀ i, resolve s.bankEnv .cpu .write addr = .ram i →
        (∀ a, t.ram a = if a = i then v else s.ram a) ∧
        busRead addr t = .next (readResult t v)) ∧
      ((∀ i, resolve s.bankEnv .cpu .write addr ≠ .ram i) → t = s)

/-- The frame of the register accesses, each of which is a read or a write: a write changes at most the chip its page
selects (page 0xd5 the cartridge), and neither the data output nor the counter of free values; a read changes nothing but
those two; no access moves the raster, the total or memory (20_memory R72, R75, R76, R78; 44_pokey_registers R300 for the
audio registers). -/
def Obligations.AccessTouchesOnlyItsChip : Prop :=
  ∀ (i : Instr) (s t : State) (a m k : Word), i.busRow = some (a, m, k) → exec i s = .next t →
    (encode i = readBytes a ∨ ∃ v, encode i = writeBytes a v) ∧
    (∀ v, encode i = writeBytes a v → t = { s with
      antic := if highByte m = 0xd4 then t.antic else s.antic
      gtia := if highByte m = 0xd0 then t.gtia else s.gtia
      pokey := if highByte m = 0xd2 then t.pokey else s.pokey
      pia := if highByte m = 0xd3 then t.pia else s.pia
      cart := if highByte m = 0xd5 then t.cart else s.cart }) ∧
    (encode i = readBytes a → ∃ x n, t = { readResult s x with draws := n } ∧ (n = s.draws ∨ n = s.draws + 1)) ∧
    t.antic.cycle = s.antic.cycle ∧ t.antic.scanLine = s.antic.scanLine ∧ t.antic.totalCycles = s.antic.totalCycles ∧
    ∀ b, t.ram b = s.ram b

/-- 20_memory R78: no bus read of any address has a side effect: only the data output and the counter of free values can
change. -/
def Obligations.BusReadsHaveNoSideEffect : Prop :=
  ∀ (addr : Word) (s : State), ∃ x n, busRead addr s = .next { readResult s x with draws := n } ∧
    (n = s.draws ∨ n = s.draws + 1)

/-- 46_pia_and_inputs R371, R373, 20_memory R69, 70_reset_and_hazards R433: PORTB governs the very next access through
the effective value, whichever of the latch and the DDR the write reached; PBCTL never changes it. -/
def Obligations.PortbGovernsNextAccess : Prop :=
  ∀ (addr : Word) (v : Byte) (s : State),
    (∃ t, exec (.wPbctl addr v) s = .next t ∧ t.bankEnv = s.bankEnv) ∧
    (∃ t, exec (.wPortb addr v) s = .next t ∧ t.bankEnv = { s.bankEnv with
      portb :=
        if s.pia.pbctl.getLsbD 2 then (v &&& s.pia.portbDdr) ||| (s.pia.portbDdr ^^^ 0xff)
        else (s.pia.portbOut &&& v) ||| (v ^^^ 0xff) })

/-! ### Timing -/

/-- 40_antic_timing R131, R145 to R147, 10_state R24: a tick advances the total by one and by the cycles it reports as
stolen, and the raster position by exactly as much within the line that its first cycle reaches. -/
def Obligations.TickAccountsForItsCycles : Prop :=
  ∀ (s s0 t : State) (b : Bool), Inv s → TicksOn s b s0 → step s = .next t →
    t.antic.totalCycles = s.antic.totalCycles + 1 + t.out.stolen ∧
    t.antic.cycle = (if s.antic.cycle = 113 then 0 else s.antic.cycle + 1) + t.out.stolen ∧
    t.antic.scanLine = (if s.antic.cycle = 113 then (s.antic.scanLine + 1) % 312 else s.antic.scanLine)

/-- 10_state R22 to R24: only a tick (queued or idle) and a machine reset move the raster, and only a tick the total. -/
def Obligations.OnlyTicksMoveTime : Prop :=
  ∀ (s t : State) (i : Input) (rest : List Input), s.inputs = i :: rest → (∀ b, i ≠ .tick b) → step s = .next t →
    t.antic.totalCycles = s.antic.totalCycles ∧
    (i ≠ .machineReset → t.antic.cycle = s.antic.cycle ∧ t.antic.scanLine = s.antic.scanLine)

/-- 40_antic_timing R130, R145, R150, R152: a tick with a WSYNC pending, on whatever windows. At a boundary the request
is done and the stall carries the counter to 104, or to 113 from past 104; it comes before the NMI fire, so a latched
request (latched on this very tick's cycle 0 too) is fired by this tick; and before the steals, which drop the windows the
stall has passed and go on only along a window that reaches past it. Without a boundary the request stays. The steals come
after the fire: below cycle 5 a request stays latched even where a steal then carries the counter on. -/
def Obligations.WsyncStall : Prop :=
  ∀ (s s0 t : State) (b : Bool), TicksOn s b s0 → Inv s → step s = .next t →
    let c := if s.antic.cycle = 113 then 0 else s.antic.cycle + 1
    let land := if c ≤ 104 then 104 else 113
    (s.antic.wsyncPending = true → b = true →
      t.antic.wsyncPending = false ∧ t.antic.nmiPending = none ∧
      land ≤ t.antic.cycle ∧ t.out.stolen = t.antic.cycle - c ∧
      (c ≠ 0 → t.antic.dmaWindows = s.antic.dmaWindows.filter (fun w => decide (t.antic.cycle < w.start)) ∧
        ((∀ w ∈ s.antic.dmaWindows, w.start ≤ land → w.start + w.len ≤ land) → t.antic.cycle = land)) ∧
      (c = 0 → ¬ (8 ≤ t.antic.scanLine ∧ t.antic.scanLine < 248) → t.antic.cycle = land)) ∧
    (b = false → t.antic.wsyncPending = s.antic.wsyncPending ∧
      (c ≠ 0 → (∀ w ∈ s.antic.dmaWindows, c < w.start) → t.antic.cycle = c ∧ t.out.stolen = 0)) ∧
    ((s.antic.wsyncPending = false ∨ b = false) → c ≠ 0 → c < 5 → t.antic.nmiPending = s.antic.nmiPending)

/-- 40_antic_timing R145, R147: on a well-formed schedule step (8) charges every window reached, each of them once, and no
other: the windows charged are the first ones of the list, each begins at or before the counter or where another charged
one ends, and every later window starts after the cycle reached; that cycle is the old one or the end of a charged window;
each cycle moved is charged; nothing else changes. -/
def Obligations.StealsChargeReachedWindows : Prop :=
  ∀ s : State, windowsOk s.antic.dmaWindows = true →
    ∃ (charged left : List Window) (c : Nat), s.antic.dmaWindows = charged ++ left ∧
      (∀ w ∈ charged, w.start ≤ s.antic.cycle ∨ ∃ v ∈ charged, v.start + v.len = w.start) ∧
      (∀ w ∈ charged, w.start + w.len ≤ c) ∧ (∀ w ∈ left, c < w.start) ∧
      (c = s.antic.cycle ∨ ∃ w ∈ charged, c = w.start + w.len) ∧ s.antic.cycle ≤ c ∧ c ≤ max s.antic.cycle 112 ∧
      applySteals s = { s with
        antic := { s.antic with
          dmaWindows := left
          cycle := c
          totalCycles := s.antic.totalCycles + (c - s.antic.cycle) }
        out := { s.out with stolen := s.out.stolen + (c - s.antic.cycle) } }

/-- 40_antic_timing R140 to R142, R144: step (3) gives a visible line the configured schedule at the key that R141 writes
out, a line in vertical blank none whatever DMACTL holds, and changes nothing else; the configured schedule is well formed
on every key, and every schedule that is can be configured. -/
def Obligations.LineSchedule : Prop :=
  (∀ k, Admitted (Config.dmaSchedule.table k)) ∧
  (∀ table : DmaKey → List Window, (∀ k, Admitted (table k)) ↔ ∃ d : DmaSchedule, d.table = table) ∧
  (∀ (table : DmaKey → List Window) (a : Antic), scheduleWindows table a = { a with
    dmaWindows :=
      if 8 ≤ a.scanLine ∧ a.scanLine < 248 then table {
        dmactl := a.dmactl
        ir := a.ir
        hscrol := BitVec.ofNat 4 (a.hscrol.toNat % 16)
        lineIndex := a.scanLine - a.startScanLine
        firstLine := decide (a.scanLine - a.startScanLine = 0)
        dlFetched := decide (a.scanLine - a.startScanLine = 0 ∧ a.dmactl.getLsbD 5 = true)
        voffset := a.voffset }
      else [] }) ∧
  ∀ s : State, (scheduleLine s).antic.dmaWindows = (scheduleWindows Config.dmaSchedule.table s.antic).dmaWindows

/-- 40_antic_timing R151, R153: at cycle 0 of line 248 a VBI is latched; at cycle 0 of a visible line that is the last
of a mode line with the DLI bit a DLI is. -/
def Obligations.NmiLatch : Prop :=
  ∀ a : Antic, checkNmi a = { a with
    nmiPending :=
      if a.scanLine = 248 then some .vbi
      else if 8 ≤ a.scanLine ∧ a.scanLine < 248 ∧ a.ir.getLsbD 7 = true ∧
          a.scanLine + 1 = a.startScanLine + a.lineHeight then some .dli
      else a.nmiPending }

/-- 40_antic_timing R152, R154: the fire step on a latched request sets exactly its status bit, whether or not it is
enabled, and pulses NMI only when it is; it waits below cycle 5, and without a request it does nothing. -/
def Obligations.NmiFire : Prop :=
  ∀ s : State, fireIfDue s =
    match s.antic.nmiPending with
    | none => s
    | some k =>
      if s.antic.cycle < 5 then s
      else { s with
        antic := { s.antic with nmiPending := none, nmist := if k = .dli then 0x80 else 0x40 }
        out := { s.out with nmi := if k = .dli then s.antic.nmien.getLsbD 7 else s.antic.nmien.getLsbD 6 } }

/-- 40_antic_timing R154, 60_exceptions R394: whatever the step, NMI is pulsed only by a tick that leaves one status bit
whose enable is set; every other step outputs no NMI. -/
def Obligations.NmiOnlyWhenEnabled : Prop :=
  ∀ s t : State, step s = .next t → t.out.nmi = true →
    ((t.antic.nmist = 0x80 ∧ t.antic.nmien.getLsbD 7 = true) ∨ (t.antic.nmist = 0x40 ∧ t.antic.nmien.getLsbD 6 = true)) ∧
    t.antic.nmiPending = none ∧ (s.inputs = [] ∨ ∃ b rest, s.inputs = .tick b :: rest)

/-- 40_antic_timing R155, R156: step (7) takes the line's snapshot once, on a visible line, from the first cycle that has
reached `visible_cycle`. -/
def Obligations.SnapshotOncePerLine : Prop :=
  ∀ (vc : Nat) (s : State),
    let snap : LineSnapshot := {
      scanLine := s.antic.scanLine
      lineIndex := s.antic.scanLine - s.antic.startScanLine
      chactl := s.antic.chactl
      gtia := {
        regs := s.gtia.regs
        playerGraphics := s.gtia.playerGraphics
        missileGraphics := s.gtia.missileGraphics
        prior := s.gtia.prior
        hposp0Filtered := s.gtia.hposp0Filtered } }
    let taken : State := { s with
      antic := { s.antic with snapshotDone := true }
      out := { s.out with snapshot := some snap } }
    snapshotIfDue vc s =
      if 8 ≤ s.antic.scanLine ∧ s.antic.scanLine < 248 ∧ s.antic.snapshotDone = false ∧ vc ≤ s.antic.cycle
      then taken else s

/-- 70_reset_and_hazards R420, R421: a machine reset zeroes ANTIC but for the total, resets the cartridge, and leaves
everything else, the POKEY queue and RAM among it. -/
def Obligations.MachineResetResult : Prop :=
  ∀ (s : State) (rest : List Input), s.inputs = .machineReset :: rest →
    step s = .next { s with
      antic := zeroAntic s.antic.totalCycles
      cart := (if Config.cartPresent then Config.cartReset s.cart else s.cart)
      inputs := rest
      out := Output.quiet }

/-! ### Host inputs and audio -/

/-- 43_gtia R296, R297: collision bits are ORed in, low nibble only, and trigger latches follow the host; nothing else
changes. -/
def Obligations.CollisionAndTriggerInputs : Prop :=
  ∀ (s : State) (i : Fin 16) (m : Byte) (j : Fin 4) (pressed : Bool),
    collide i m s = { s with gtia := { s.gtia with
      collisions := s.gtia.collisions.set i (s.gtia.collisions[i] ||| (m &&& 0x0f)) } } ∧
    setTrigger j pressed s = { s with gtia := { s.gtia with trig := s.gtia.trig.set j (if pressed then 0 else 1) } }

/-- 45_pokey_synthesis R340, R356, 20_memory R84: the drain empties the queue and changes no other bus-side state; taking
a queue in two drains, with no synthesis cycle between, gives the backend what one drain gives. The model's choices, not the
spec's: that drained entries are kept as a list with their cycles (log 16), and that the offsets are exact rationals and a
negative time counts as cycle 0 before the maximum (log 12). -/
def Obligations.DrainTakesWholeQueue : Prop :=
  (∀ s : State, audioDrain s = { s with
    pokey := { s.pokey with audioQueue := [] }
    synth := { s.synth with pending := s.synth.pending ++ s.pokey.audioQueue.map fun e =>
      ⟨max s.synth.cycle
          (((e.timestamp : Rat) / (clockHz : Rat) - Config.deltaT + Config.latency) * (clockHz : Rat)).ceil.toNat,
        e.reg, e.value⟩ } }) ∧
  ∀ (s : State) (q r : List QueueEntry),
    audioDrain { s with pokey := { s.pokey with audioQueue := q ++ r } } =
      audioDrain { audioDrain { s with pokey := { s.pokey with audioQueue := q } } with
        pokey := { s.pokey with audioQueue := r } }

/-- 45_pokey_synthesis R340, R342 to R346, R348, R349, R351 to R354: one synthesis cycle, the whole next state: the entries
due are applied, the counters that are clocked count down or reload with an event, events move the outputs by the
polynomial bits of this cycle, then the high-pass latches follow, and the level gives `x(s)` by the volume curve. And a
divider with reload `n` counts down in `n` pulses without an event and reloads with one on the next pulse; without a pulse
it stands still. The value of a host sample and its `s_k` are R355's. The model's choices, not the spec's: that the samples
with `s_k` equal to this cycle come out of it, one for each such `k`, and that drained entries and past levels are kept as
lists (log 16); that coefficients and samples are exact rationals (log 11); that the rate is a positive rational (log 22);
that a synthesis cycle is an input and samples are an output (logs 2 and 3). The polynomials are parameters (log 10). -/
def Obligations.SynthesisCycle : Prop :=
  (∀ (s : State) (rest : List Input), s.inputs = .synthCycle :: rest →
    let y := dueApplied s.synth
    let z : Synth := { y with
      cnt := #v[countAfter y 0, countAfter y 1, countAfter y 2, countAfter y 3]
      outFF := #v[outAfter y 0, outAfter y 1, outAfter y 2, outAfter y 3]
      hp := #v[if hasEvent y 2 then outAfter y 0 else y.hp[0], if hasEvent y 3 then outAfter y 1 else y.hp[1]] }
    let history := Config.volumeCurve.value (Fin.ofNat 61 (level z)) :: y.history
    ∃ first n : Nat,
      step s = .next { s with
        inputs := rest
        synth := { z with cycle := y.cycle + 1, history := history }
        out := { Output.quiet with
          samples := List.replicate n ((List.range Config.firFilter.length).map fun j =>
            Config.firFilter.getD j 0 * history.getD j 0).sum } } ∧
      ∀ k : Nat, ((k : Rat) * (clockHz : Rat) / Config.hostSampleRate.value).floor = (s.synth.cycle : Int) ↔
        first ≤ k ∧ k < first + n) ∧
  ∀ n : Nat,
    (∀ k ≤ n, Nat.repeat (fun c => (countDown true n c).1) k n = n - k) ∧
    (∀ k < n, (countDown true n (Nat.repeat (fun c => (countDown true n c).1) k n)).2 = false) ∧
    countDown true n (Nat.repeat (fun c => (countDown true n c).1) n n) = (n, true) ∧
    ∀ c, countDown false n c = (c, false)

/-- 45_pokey_synthesis R349: the output flip-flop after an event. -/
def Obligations.ChannelEventRule : Prop :=
  ∀ (p : PolyBits) (audctl audc : Byte) (out : Bool),
    (audc.getLsbD 7 = false → p.p5 = false → eventOut p audctl audc out = out) ∧
    ((audc.getLsbD 7 = true ∨ p.p5 = true) →
      (audc.getLsbD 5 = true → eventOut p audctl audc out = !out) ∧
      (audc.getLsbD 5 = false → audc.getLsbD 6 = true → eventOut p audctl audc out = p.p4) ∧
      (audc.getLsbD 5 = false → audc.getLsbD 6 = false →
        eventOut p audctl audc out = if audctl.getLsbD 7 then p.p9 else p.p17))

/-- 45_pokey_synthesis R350, R351, R353: the level is the sum of the four channels' contributions, at most 60; a channel
in volume-only mode contributes its volume whatever its output, any other its volume while its effective output is 1; the
effective output is the flip-flop, for channels 1 and 2 XORed with their high-pass latch while AUDCTL bit 2 or 1 is set. -/
def Obligations.LevelSumsVolumes : Prop :=
  ∀ y : Synth, level y = contrib y 0 + contrib y 1 + contrib y 2 + contrib y 3 ∧ level y ≤ 60 ∧
    (∀ k : Fin 4, y.audc[k].getLsbD 4 = true → contrib y k = y.audc[k].toNat % 16) ∧
    (∀ k : Fin 4, y.audc[k].getLsbD 4 = false → effOut y k = true → contrib y k = y.audc[k].toNat % 16) ∧
    (∀ k : Fin 4, y.audc[k].getLsbD 4 = false → effOut y k = false → contrib y k = 0) ∧
    effOut y 0 = (y.outFF[0] ^^ (y.audctl.getLsbD 2 && y.hp[0])) ∧
    effOut y 1 = (y.outFF[1] ^^ (y.audctl.getLsbD 1 && y.hp[1])) ∧
    effOut y 2 = y.outFF[2] ∧ effOut y 3 = y.outFF[3]
end

