-- ==== Sys2Proof/Laws/Memory.lean ====
section
/-! SUPPORT. The laws of the byte lists: a write reads back, leaves every other address alone, and keeps the canonical
form. -/

namespace Sys2Proof.Machine

/-! ### Listing and taking out -/

theorem read_put (u : Nat → Byte) (m : List Host.Cell) (a b : Nat) (v : Byte) :
    Memory.read u (Memory.put m a v) b = if b = a then v else Memory.read u m b := by
  induction m with
  | nil => simp [Memory.put, Memory.read, eq_comm]
  | cons c m ih =>
    obtain ⟨k, w⟩ := c
    simp only [Memory.put]
    split
    · simp [Memory.read, eq_comm]
    · split
      · rename_i hk; subst hk
        by_cases h : a = b <;> simp [Memory.read, h, eq_comm]
      · rename_i h1 h2
        simp only [Memory.read, ih]
        by_cases h : k = b
        · have : b ≠ a := by omega
          simp [h, this]
        · simp [h]

theorem read_erase (u : Nat → Byte) (m : List Host.Cell) (a b : Nat) :
    Memory.read u (Memory.erase m a) b = if b = a then u b else Memory.read u m b := by
  induction m with
  | nil => simp [Memory.erase, Memory.read]
  | cons c m ih =>
    obtain ⟨k, w⟩ := c
    unfold Memory.erase at ih ⊢
    by_cases hk : k = a
    · subst hk
      simp only [List.filter_cons, ne_eq, not_true_eq_false, decide_false, Bool.false_eq_true, if_false, ih,
        Memory.read]
      by_cases h : b = k
      · simp [h]
      · simp [h, Ne.symm h]
    · simp only [List.filter_cons, ne_eq, hk, not_false_eq_true, decide_true, if_true, Memory.read, ih]
      by_cases h : k = b
      · subst h; simp [hk]
      · simp [h]

theorem wfFrom_mono {u : Nat → Byte} {m : List Host.Cell} {lo lo' : Nat} (h : wfFrom u lo m = true) (hl : lo' ≤ lo) :
    wfFrom u lo' m = true := by
  cases m with
  | nil => rfl
  | cons c m =>
    simp only [wfFrom, Bool.and_eq_true, decide_eq_true_eq] at h ⊢
    exact ⟨⟨by omega, h.1.2⟩, h.2⟩

theorem wfFrom_put {u : Nat → Byte} {m : List Host.Cell} {lo a : Nat} {v : Byte} (h : wfFrom u lo m = true)
    (hl : lo ≤ a) (hv : v ≠ u a) : wfFrom u lo (Memory.put m a v) = true := by
  induction m generalizing lo with
  | nil => simp [Memory.put, wfFrom, hl, hv]
  | cons c m ih =>
    obtain ⟨k, w⟩ := c
    simp only [wfFrom, Bool.and_eq_true, decide_eq_true_eq] at h
    simp only [Memory.put]
    split
    · simp only [wfFrom, Bool.and_eq_true, decide_eq_true_eq]
      exact ⟨⟨hl, hv⟩, ⟨by omega, h.1.2⟩, h.2⟩
    · split
      · rename_i hak; subst hak
        simp only [wfFrom, Bool.and_eq_true, decide_eq_true_eq]
        exact ⟨⟨hl, hv⟩, h.2⟩
      · simp only [wfFrom, Bool.and_eq_true, decide_eq_true_eq]
        exact ⟨h.1, ih h.2 (by omega)⟩

theorem wfFrom_erase {u : Nat → Byte} {m : List Host.Cell} {lo : Nat} (a : Nat) (h : wfFrom u lo m = true) :
    wfFrom u lo (Memory.erase m a) = true := by
  induction m generalizing lo with
  | nil => rfl
  | cons c m ih =>
    obtain ⟨k, w⟩ := c
    simp only [wfFrom, Bool.and_eq_true, decide_eq_true_eq] at h
    unfold Memory.erase at ih ⊢
    rw [List.filter_cons]
    split
    · simp only [wfFrom, Bool.and_eq_true, decide_eq_true_eq]
      exact ⟨h.1, ih h.2⟩
    · exact wfFrom_mono (ih h.2) (by omega)

/-! ### Writing -/

/-- What a write leaves at every address. -/
theorem memory_read_write (u : Nat → Byte) (m : List Host.Cell) (a b : Nat) (v : Byte) :
    Memory.read u (Memory.write u m a v) b = if b = a then v else Memory.read u m b := by
  unfold Memory.write
  split
  · rename_i hv
    rw [read_erase]
    split
    · rename_i hb; rw [hv, hb]
    · rfl
  · exact read_put u m a b v

/-- A write keeps the canonical form. -/
theorem memory_write_wf {u : Nat → Byte} {m : List Host.Cell} (a : Nat) (v : Byte) (h : Memory.wf u m = true) :
    Memory.wf u (Memory.write u m a v) = true := by
  unfold Memory.write
  split
  · exact wfFrom_erase a h
  · exact wfFrom_put h (Nat.zero_le a) ‹_›

theorem mem_memory_put {m : List Host.Cell} {a : Nat} {v : Byte} {c : Host.Cell} (h : c ∈ Memory.put m a v) :
    c = (a, v) ∨ c ∈ m := by
  induction m with
  | nil => exact .inl (List.mem_singleton.mp h)
  | cons d m ih =>
    obtain ⟨k, w⟩ := d
    simp only [Memory.put] at h
    split at h
    · exact List.mem_cons.mp h
    · split at h
      · exact (List.mem_cons.mp h).imp id (List.mem_cons_of_mem _)
      · rcases List.mem_cons.mp h with h | h
        · exact .inr (h ▸ List.mem_cons_self ..)
        · exact (ih h).imp id (List.mem_cons_of_mem _)

/-- The cells of a write are those of the list before it, and the written one. -/
theorem mem_memory_write {u : Nat → Byte} {m : List Host.Cell} {a : Nat} {v : Byte} {c : Host.Cell}
    (h : c ∈ Memory.write u m a v) : c = (a, v) ∨ c ∈ m := by
  unfold Memory.write at h
  split at h
  · exact .inr (List.mem_filter.mp h).1
  · exact mem_memory_put h

/-! ### RAM -/

@[simp] theorem ram_setRam (s : State) (i j : Nat) (v : Byte) :
    (s.setRam i v).ram j = if j = i then v else s.ram j := memory_read_write ..

@[simp] theorem ram_setAntic (s : State) (a : Antic) (i : Nat) : (s.setAntic a).ram i = s.ram i := rfl
@[simp] theorem ram_setOut (s : State) (o : Output) (i : Nat) : (s.setOut o).ram i = s.ram i := rfl

/-- The memory operations on the state keep the canonical form. -/
theorem memWriteCpu_wf (s : State) (addr : Word) (v : Byte) (h : Memory.wf unlistedByte s.mem = true) :
    Memory.wf unlistedByte (memWriteCpu s addr v).mem = true := by
  unfold memWriteCpu
  split
  · exact memory_write_wf _ _ h
  · exact h

/-- A CPU write to storage changes nothing but RAM. -/
theorem memWriteCpu_eq (s : State) (addr : Word) (v : Byte) :
    memWriteCpu s addr v = s ∨
      ∃ i, resolve s.bankEnv .cpu .write addr = .ram i ∧ memWriteCpu s addr v = s.setRam i v := by
  unfold memWriteCpu
  split
  · rename_i i h; exact .inr ⟨i, h, rfl⟩
  · exact .inl rfl

end Sys2Proof.Machine
end

