-- ==== Sys2Proof/Laws/State.lean ====
section
/-! SUPPORT. One lemma for each field and each update of State, all true by rfl, so that no proof unfolds an update. -/

namespace Sys2Proof.Machine

variable (s : State)

@[simp] theorem State.setAntic_antic (x : Antic) : (s.setAntic x).antic = x := rfl
@[simp] theorem State.setAntic_gtia (x : Antic) : (s.setAntic x).gtia = s.gtia := rfl
@[simp] theorem State.setAntic_pokey (x : Antic) : (s.setAntic x).pokey = s.pokey := rfl
@[simp] theorem State.setAntic_pia (x : Antic) : (s.setAntic x).pia = s.pia := rfl
@[simp] theorem State.setAntic_joyMux (x : Antic) : (s.setAntic x).joyMux = s.joyMux := rfl
@[simp] theorem State.setAntic_consolMux (x : Antic) : (s.setAntic x).consolMux = s.consolMux := rfl
@[simp] theorem State.setAntic_mem (x : Antic) : (s.setAntic x).mem = s.mem := rfl
@[simp] theorem State.setAntic_cart (x : Antic) : (s.setAntic x).cart = s.cart := rfl
@[simp] theorem State.setAntic_synth (x : Antic) : (s.setAntic x).synth = s.synth := rfl
@[simp] theorem State.setAntic_inputs (x : Antic) : (s.setAntic x).inputs = s.inputs := rfl
@[simp] theorem State.setAntic_out (x : Antic) : (s.setAntic x).out = s.out := rfl
@[simp] theorem State.setAntic_draws (x : Antic) : (s.setAntic x).draws = s.draws := rfl

@[simp] theorem State.setGtia_antic (x : Gtia) : (s.setGtia x).antic = s.antic := rfl
@[simp] theorem State.setGtia_gtia (x : Gtia) : (s.setGtia x).gtia = x := rfl
@[simp] theorem State.setGtia_pokey (x : Gtia) : (s.setGtia x).pokey = s.pokey := rfl
@[simp] theorem State.setGtia_pia (x : Gtia) : (s.setGtia x).pia = s.pia := rfl
@[simp] theorem State.setGtia_joyMux (x : Gtia) : (s.setGtia x).joyMux = s.joyMux := rfl
@[simp] theorem State.setGtia_consolMux (x : Gtia) : (s.setGtia x).consolMux = s.consolMux := rfl
@[simp] theorem State.setGtia_mem (x : Gtia) : (s.setGtia x).mem = s.mem := rfl
@[simp] theorem State.setGtia_cart (x : Gtia) : (s.setGtia x).cart = s.cart := rfl
@[simp] theorem State.setGtia_synth (x : Gtia) : (s.setGtia x).synth = s.synth := rfl
@[simp] theorem State.setGtia_inputs (x : Gtia) : (s.setGtia x).inputs = s.inputs := rfl
@[simp] theorem State.setGtia_out (x : Gtia) : (s.setGtia x).out = s.out := rfl
@[simp] theorem State.setGtia_draws (x : Gtia) : (s.setGtia x).draws = s.draws := rfl

@[simp] theorem State.setPokey_antic (x : Pokey) : (s.setPokey x).antic = s.antic := rfl
@[simp] theorem State.setPokey_gtia (x : Pokey) : (s.setPokey x).gtia = s.gtia := rfl
@[simp] theorem State.setPokey_pokey (x : Pokey) : (s.setPokey x).pokey = x := rfl
@[simp] theorem State.setPokey_pia (x : Pokey) : (s.setPokey x).pia = s.pia := rfl
@[simp] theorem State.setPokey_joyMux (x : Pokey) : (s.setPokey x).joyMux = s.joyMux := rfl
@[simp] theorem State.setPokey_consolMux (x : Pokey) : (s.setPokey x).consolMux = s.consolMux := rfl
@[simp] theorem State.setPokey_mem (x : Pokey) : (s.setPokey x).mem = s.mem := rfl
@[simp] theorem State.setPokey_cart (x : Pokey) : (s.setPokey x).cart = s.cart := rfl
@[simp] theorem State.setPokey_synth (x : Pokey) : (s.setPokey x).synth = s.synth := rfl
@[simp] theorem State.setPokey_inputs (x : Pokey) : (s.setPokey x).inputs = s.inputs := rfl
@[simp] theorem State.setPokey_out (x : Pokey) : (s.setPokey x).out = s.out := rfl
@[simp] theorem State.setPokey_draws (x : Pokey) : (s.setPokey x).draws = s.draws := rfl

@[simp] theorem State.setPia_antic (x : Pia) : (s.setPia x).antic = s.antic := rfl
@[simp] theorem State.setPia_gtia (x : Pia) : (s.setPia x).gtia = s.gtia := rfl
@[simp] theorem State.setPia_pokey (x : Pia) : (s.setPia x).pokey = s.pokey := rfl
@[simp] theorem State.setPia_pia (x : Pia) : (s.setPia x).pia = x := rfl
@[simp] theorem State.setPia_joyMux (x : Pia) : (s.setPia x).joyMux = s.joyMux := rfl
@[simp] theorem State.setPia_consolMux (x : Pia) : (s.setPia x).consolMux = s.consolMux := rfl
@[simp] theorem State.setPia_mem (x : Pia) : (s.setPia x).mem = s.mem := rfl
@[simp] theorem State.setPia_cart (x : Pia) : (s.setPia x).cart = s.cart := rfl
@[simp] theorem State.setPia_synth (x : Pia) : (s.setPia x).synth = s.synth := rfl
@[simp] theorem State.setPia_inputs (x : Pia) : (s.setPia x).inputs = s.inputs := rfl
@[simp] theorem State.setPia_out (x : Pia) : (s.setPia x).out = s.out := rfl
@[simp] theorem State.setPia_draws (x : Pia) : (s.setPia x).draws = s.draws := rfl

@[simp] theorem State.setJoyMux_antic (x : List Host.Cell) : (s.setJoyMux x).antic = s.antic := rfl
@[simp] theorem State.setJoyMux_gtia (x : List Host.Cell) : (s.setJoyMux x).gtia = s.gtia := rfl
@[simp] theorem State.setJoyMux_pokey (x : List Host.Cell) : (s.setJoyMux x).pokey = s.pokey := rfl
@[simp] theorem State.setJoyMux_pia (x : List Host.Cell) : (s.setJoyMux x).pia = s.pia := rfl
@[simp] theorem State.setJoyMux_joyMux (x : List Host.Cell) : (s.setJoyMux x).joyMux = x := rfl
@[simp] theorem State.setJoyMux_consolMux (x : List Host.Cell) : (s.setJoyMux x).consolMux = s.consolMux := rfl
@[simp] theorem State.setJoyMux_mem (x : List Host.Cell) : (s.setJoyMux x).mem = s.mem := rfl
@[simp] theorem State.setJoyMux_cart (x : List Host.Cell) : (s.setJoyMux x).cart = s.cart := rfl
@[simp] theorem State.setJoyMux_synth (x : List Host.Cell) : (s.setJoyMux x).synth = s.synth := rfl
@[simp] theorem State.setJoyMux_inputs (x : List Host.Cell) : (s.setJoyMux x).inputs = s.inputs := rfl
@[simp] theorem State.setJoyMux_out (x : List Host.Cell) : (s.setJoyMux x).out = s.out := rfl
@[simp] theorem State.setJoyMux_draws (x : List Host.Cell) : (s.setJoyMux x).draws = s.draws := rfl

@[simp] theorem State.setConsolMux_antic (x : List Host.Cell) : (s.setConsolMux x).antic = s.antic := rfl
@[simp] theorem State.setConsolMux_gtia (x : List Host.Cell) : (s.setConsolMux x).gtia = s.gtia := rfl
@[simp] theorem State.setConsolMux_pokey (x : List Host.Cell) : (s.setConsolMux x).pokey = s.pokey := rfl
@[simp] theorem State.setConsolMux_pia (x : List Host.Cell) : (s.setConsolMux x).pia = s.pia := rfl
@[simp] theorem State.setConsolMux_joyMux (x : List Host.Cell) : (s.setConsolMux x).joyMux = s.joyMux := rfl
@[simp] theorem State.setConsolMux_consolMux (x : List Host.Cell) : (s.setConsolMux x).consolMux = x := rfl
@[simp] theorem State.setConsolMux_mem (x : List Host.Cell) : (s.setConsolMux x).mem = s.mem := rfl
@[simp] theorem State.setConsolMux_cart (x : List Host.Cell) : (s.setConsolMux x).cart = s.cart := rfl
@[simp] theorem State.setConsolMux_synth (x : List Host.Cell) : (s.setConsolMux x).synth = s.synth := rfl
@[simp] theorem State.setConsolMux_inputs (x : List Host.Cell) : (s.setConsolMux x).inputs = s.inputs := rfl
@[simp] theorem State.setConsolMux_out (x : List Host.Cell) : (s.setConsolMux x).out = s.out := rfl
@[simp] theorem State.setConsolMux_draws (x : List Host.Cell) : (s.setConsolMux x).draws = s.draws := rfl

@[simp] theorem State.setMem_antic (x : List Host.Cell) : (s.setMem x).antic = s.antic := rfl
@[simp] theorem State.setMem_gtia (x : List Host.Cell) : (s.setMem x).gtia = s.gtia := rfl
@[simp] theorem State.setMem_pokey (x : List Host.Cell) : (s.setMem x).pokey = s.pokey := rfl
@[simp] theorem State.setMem_pia (x : List Host.Cell) : (s.setMem x).pia = s.pia := rfl
@[simp] theorem State.setMem_joyMux (x : List Host.Cell) : (s.setMem x).joyMux = s.joyMux := rfl
@[simp] theorem State.setMem_consolMux (x : List Host.Cell) : (s.setMem x).consolMux = s.consolMux := rfl
@[simp] theorem State.setMem_mem (x : List Host.Cell) : (s.setMem x).mem = x := rfl
@[simp] theorem State.setMem_cart (x : List Host.Cell) : (s.setMem x).cart = s.cart := rfl
@[simp] theorem State.setMem_synth (x : List Host.Cell) : (s.setMem x).synth = s.synth := rfl
@[simp] theorem State.setMem_inputs (x : List Host.Cell) : (s.setMem x).inputs = s.inputs := rfl
@[simp] theorem State.setMem_out (x : List Host.Cell) : (s.setMem x).out = s.out := rfl
@[simp] theorem State.setMem_draws (x : List Host.Cell) : (s.setMem x).draws = s.draws := rfl

@[simp] theorem State.setCart_antic (x : Nat) : (s.setCart x).antic = s.antic := rfl
@[simp] theorem State.setCart_gtia (x : Nat) : (s.setCart x).gtia = s.gtia := rfl
@[simp] theorem State.setCart_pokey (x : Nat) : (s.setCart x).pokey = s.pokey := rfl
@[simp] theorem State.setCart_pia (x : Nat) : (s.setCart x).pia = s.pia := rfl
@[simp] theorem State.setCart_joyMux (x : Nat) : (s.setCart x).joyMux = s.joyMux := rfl
@[simp] theorem State.setCart_consolMux (x : Nat) : (s.setCart x).consolMux = s.consolMux := rfl
@[simp] theorem State.setCart_mem (x : Nat) : (s.setCart x).mem = s.mem := rfl
@[simp] theorem State.setCart_cart (x : Nat) : (s.setCart x).cart = x := rfl
@[simp] theorem State.setCart_synth (x : Nat) : (s.setCart x).synth = s.synth := rfl
@[simp] theorem State.setCart_inputs (x : Nat) : (s.setCart x).inputs = s.inputs := rfl
@[simp] theorem State.setCart_out (x : Nat) : (s.setCart x).out = s.out := rfl
@[simp] theorem State.setCart_draws (x : Nat) : (s.setCart x).draws = s.draws := rfl

@[simp] theorem State.setSynth_antic (x : Synth) : (s.setSynth x).antic = s.antic := rfl
@[simp] theorem State.setSynth_gtia (x : Synth) : (s.setSynth x).gtia = s.gtia := rfl
@[simp] theorem State.setSynth_pokey (x : Synth) : (s.setSynth x).pokey = s.pokey := rfl
@[simp] theorem State.setSynth_pia (x : Synth) : (s.setSynth x).pia = s.pia := rfl
@[simp] theorem State.setSynth_joyMux (x : Synth) : (s.setSynth x).joyMux = s.joyMux := rfl
@[simp] theorem State.setSynth_consolMux (x : Synth) : (s.setSynth x).consolMux = s.consolMux := rfl
@[simp] theorem State.setSynth_mem (x : Synth) : (s.setSynth x).mem = s.mem := rfl
@[simp] theorem State.setSynth_cart (x : Synth) : (s.setSynth x).cart = s.cart := rfl
@[simp] theorem State.setSynth_synth (x : Synth) : (s.setSynth x).synth = x := rfl
@[simp] theorem State.setSynth_inputs (x : Synth) : (s.setSynth x).inputs = s.inputs := rfl
@[simp] theorem State.setSynth_out (x : Synth) : (s.setSynth x).out = s.out := rfl
@[simp] theorem State.setSynth_draws (x : Synth) : (s.setSynth x).draws = s.draws := rfl

@[simp] theorem State.setInputs_antic (x : List Input) : (s.setInputs x).antic = s.antic := rfl
@[simp] theorem State.setInputs_gtia (x : List Input) : (s.setInputs x).gtia = s.gtia := rfl
@[simp] theorem State.setInputs_pokey (x : List Input) : (s.setInputs x).pokey = s.pokey := rfl
@[simp] theorem State.setInputs_pia (x : List Input) : (s.setInputs x).pia = s.pia := rfl
@[simp] theorem State.setInputs_joyMux (x : List Input) : (s.setInputs x).joyMux = s.joyMux := rfl
@[simp] theorem State.setInputs_consolMux (x : List Input) : (s.setInputs x).consolMux = s.consolMux := rfl
@[simp] theorem State.setInputs_mem (x : List Input) : (s.setInputs x).mem = s.mem := rfl
@[simp] theorem State.setInputs_cart (x : List Input) : (s.setInputs x).cart = s.cart := rfl
@[simp] theorem State.setInputs_synth (x : List Input) : (s.setInputs x).synth = s.synth := rfl
@[simp] theorem State.setInputs_inputs (x : List Input) : (s.setInputs x).inputs = x := rfl
@[simp] theorem State.setInputs_out (x : List Input) : (s.setInputs x).out = s.out := rfl
@[simp] theorem State.setInputs_draws (x : List Input) : (s.setInputs x).draws = s.draws := rfl

@[simp] theorem State.setOut_antic (x : Output) : (s.setOut x).antic = s.antic := rfl
@[simp] theorem State.setOut_gtia (x : Output) : (s.setOut x).gtia = s.gtia := rfl
@[simp] theorem State.setOut_pokey (x : Output) : (s.setOut x).pokey = s.pokey := rfl
@[simp] theorem State.setOut_pia (x : Output) : (s.setOut x).pia = s.pia := rfl
@[simp] theorem State.setOut_joyMux (x : Output) : (s.setOut x).joyMux = s.joyMux := rfl
@[simp] theorem State.setOut_consolMux (x : Output) : (s.setOut x).consolMux = s.consolMux := rfl
@[simp] theorem State.setOut_mem (x : Output) : (s.setOut x).mem = s.mem := rfl
@[simp] theorem State.setOut_cart (x : Output) : (s.setOut x).cart = s.cart := rfl
@[simp] theorem State.setOut_synth (x : Output) : (s.setOut x).synth = s.synth := rfl
@[simp] theorem State.setOut_inputs (x : Output) : (s.setOut x).inputs = s.inputs := rfl
@[simp] theorem State.setOut_out (x : Output) : (s.setOut x).out = x := rfl
@[simp] theorem State.setOut_draws (x : Output) : (s.setOut x).draws = s.draws := rfl

@[simp] theorem State.setDraws_antic (x : Nat) : (s.setDraws x).antic = s.antic := rfl
@[simp] theorem State.setDraws_gtia (x : Nat) : (s.setDraws x).gtia = s.gtia := rfl
@[simp] theorem State.setDraws_pokey (x : Nat) : (s.setDraws x).pokey = s.pokey := rfl
@[simp] theorem State.setDraws_pia (x : Nat) : (s.setDraws x).pia = s.pia := rfl
@[simp] theorem State.setDraws_joyMux (x : Nat) : (s.setDraws x).joyMux = s.joyMux := rfl
@[simp] theorem State.setDraws_consolMux (x : Nat) : (s.setDraws x).consolMux = s.consolMux := rfl
@[simp] theorem State.setDraws_mem (x : Nat) : (s.setDraws x).mem = s.mem := rfl
@[simp] theorem State.setDraws_cart (x : Nat) : (s.setDraws x).cart = s.cart := rfl
@[simp] theorem State.setDraws_synth (x : Nat) : (s.setDraws x).synth = s.synth := rfl
@[simp] theorem State.setDraws_inputs (x : Nat) : (s.setDraws x).inputs = s.inputs := rfl
@[simp] theorem State.setDraws_out (x : Nat) : (s.setDraws x).out = s.out := rfl
@[simp] theorem State.setDraws_draws (x : Nat) : (s.setDraws x).draws = x := rfl

/-! The bus data output writes nothing but `out` (and, for a draw, `draws`). -/

@[simp] theorem driveData_antic (v : Byte) : (driveData v s).antic = s.antic := rfl
@[simp] theorem driveData_gtia (v : Byte) : (driveData v s).gtia = s.gtia := rfl
@[simp] theorem driveData_pokey (v : Byte) : (driveData v s).pokey = s.pokey := rfl
@[simp] theorem driveData_pia (v : Byte) : (driveData v s).pia = s.pia := rfl
@[simp] theorem driveData_joyMux (v : Byte) : (driveData v s).joyMux = s.joyMux := rfl
@[simp] theorem driveData_consolMux (v : Byte) : (driveData v s).consolMux = s.consolMux := rfl
@[simp] theorem driveData_mem (v : Byte) : (driveData v s).mem = s.mem := rfl
@[simp] theorem driveData_cart (v : Byte) : (driveData v s).cart = s.cart := rfl
@[simp] theorem driveData_synth (v : Byte) : (driveData v s).synth = s.synth := rfl
@[simp] theorem driveData_inputs (v : Byte) : (driveData v s).inputs = s.inputs := rfl
@[simp] theorem driveData_draws (v : Byte) : (driveData v s).draws = s.draws := rfl
@[simp] theorem driveDraw_antic : (driveDraw s).antic = s.antic := rfl
@[simp] theorem driveDraw_gtia : (driveDraw s).gtia = s.gtia := rfl
@[simp] theorem driveDraw_pokey : (driveDraw s).pokey = s.pokey := rfl
@[simp] theorem driveDraw_pia : (driveDraw s).pia = s.pia := rfl
@[simp] theorem driveDraw_joyMux : (driveDraw s).joyMux = s.joyMux := rfl
@[simp] theorem driveDraw_consolMux : (driveDraw s).consolMux = s.consolMux := rfl
@[simp] theorem driveDraw_mem : (driveDraw s).mem = s.mem := rfl
@[simp] theorem driveDraw_cart : (driveDraw s).cart = s.cart := rfl
@[simp] theorem driveDraw_synth : (driveDraw s).synth = s.synth := rfl
@[simp] theorem driveDraw_inputs : (driveDraw s).inputs = s.inputs := rfl
@[simp] theorem driveOpenBus_antic : (driveOpenBus s).antic = s.antic := rfl
@[simp] theorem driveOpenBus_gtia : (driveOpenBus s).gtia = s.gtia := rfl
@[simp] theorem driveOpenBus_pokey : (driveOpenBus s).pokey = s.pokey := rfl
@[simp] theorem driveOpenBus_pia : (driveOpenBus s).pia = s.pia := rfl
@[simp] theorem driveOpenBus_joyMux : (driveOpenBus s).joyMux = s.joyMux := rfl
@[simp] theorem driveOpenBus_consolMux : (driveOpenBus s).consolMux = s.consolMux := rfl
@[simp] theorem driveOpenBus_mem : (driveOpenBus s).mem = s.mem := rfl
@[simp] theorem driveOpenBus_cart : (driveOpenBus s).cart = s.cart := rfl
@[simp] theorem driveOpenBus_synth : (driveOpenBus s).synth = s.synth := rfl
@[simp] theorem driveOpenBus_inputs : (driveOpenBus s).inputs = s.inputs := rfl
@[simp] theorem driveOpenBus_draws : (driveOpenBus s).draws = s.draws := rfl

@[simp] theorem driveData_out (v : Byte) : (driveData v s).out = { s.out with readData := some v } := rfl
@[simp] theorem driveOpenBus_out : (driveOpenBus s).out = { s.out with readData := some 0xff } := rfl
@[simp] theorem driveDraw_out : (driveDraw s).out = { s.out with readData := some (Config.draw s.draws) } := rfl
@[simp] theorem driveDraw_draws : (driveDraw s).draws = s.draws + 1 := rfl

end Sys2Proof.Machine
end

