-- ==== Sys2Proof/Laws/Ops.lean ====
section
/-! SUPPORT. What the shared operations can do, once each: the pieces of a tick, a mode line, a bus access and a
placement. Proofs cite these and unfold no operation. -/

namespace Sys2Proof.Machine

/-! ### Outcomes -/

@[simp] theorem andThen_next (s : State) (f : State → State) : andThen (.next s) f = .next (f s) := rfl

/-- An outcome after `f` is a next state exactly when the outcome was one. -/
theorem andThen_eq_next {o : Res} {f : State → State} {t : State} :
    andThen o f = .next t ↔ ∃ u, o = .next u ∧ f u = t := by
  cases o with
  | next u => simp [andThen]
  | fault r => cases r
  | refused r => simp [andThen]

/-- Every instruction answers a next state. -/
theorem exec_completes (i : Instr) (s : State) : ∃ t, exec i s = .next t := by
  cases i <;> exact ⟨_, rfl⟩

/-! ### What an operation may touch -/

/-- Only ANTIC and the outputs differ. -/
def AnticOnly (s t : State) : Prop := t = { s with antic := t.antic, out := t.out }

theorem AnticOnly.refl (s : State) : AnticOnly s s := rfl

theorem AnticOnly.trans {s t u : State} (h : AnticOnly s t) (k : AnticOnly t u) : AnticOnly s u := by
  unfold AnticOnly at *; rw [k, h]

theorem AnticOnly.of_set (s : State) (a : Antic) (o : Output) : AnticOnly s ((s.setAntic a).setOut o) := rfl

theorem AnticOnly.setAntic (s : State) (a : Antic) : AnticOnly s (s.setAntic a) := rfl

theorem AnticOnly.mem {s t : State} (h : AnticOnly s t) : t.mem = s.mem := by rw [h]
theorem AnticOnly.gtia {s t : State} (h : AnticOnly s t) : t.gtia = s.gtia := by rw [h]
theorem AnticOnly.pokey {s t : State} (h : AnticOnly s t) : t.pokey = s.pokey := by rw [h]
theorem AnticOnly.pia {s t : State} (h : AnticOnly s t) : t.pia = s.pia := by rw [h]
theorem AnticOnly.synth {s t : State} (h : AnticOnly s t) : t.synth = s.synth := by rw [h]
theorem AnticOnly.joyMux {s t : State} (h : AnticOnly s t) : t.joyMux = s.joyMux := by rw [h]
theorem AnticOnly.consolMux {s t : State} (h : AnticOnly s t) : t.consolMux = s.consolMux := by rw [h]
theorem AnticOnly.inputs {s t : State} (h : AnticOnly s t) : t.inputs = s.inputs := by rw [h]
theorem AnticOnly.cart {s t : State} (h : AnticOnly s t) : t.cart = s.cart := by rw [h]
theorem AnticOnly.draws {s t : State} (h : AnticOnly s t) : t.draws = s.draws := by rw [h]

theorem emptyLine_anticOnly (ir : Byte) (h n : Nat) (d : Word) (s : State) : AnticOnly s (emptyLine ir h n d s) := rfl

theorem displayModeLine_anticOnly (m : DisplayMode) (dli : Bool) (lms : Option Word) (vs hs : Bool) (s : State) :
    AnticOnly s (displayModeLine m dli lms vs hs s) := rfl

theorem defaultLine_anticOnly (s : State) : AnticOnly s (defaultLine s) := rfl

theorem skipTo_anticOnly (n : Nat) (s : State) : AnticOnly s (skipTo n s) := rfl

theorem fireNmi_anticOnly (k : NmiKind) (s : State) : AnticOnly s (fireNmi k s) := rfl

theorem applyWsync_anticOnly (b : Bool) (s : State) : AnticOnly s (applyWsync b s) := by
  unfold applyWsync; split
  · exact (AnticOnly.setAntic _ _).trans (skipTo_anticOnly _ _)
  · exact AnticOnly.refl s

theorem fireIfDue_anticOnly (s : State) : AnticOnly s (fireIfDue s) := by
  unfold fireIfDue; split
  · exact AnticOnly.refl s
  · split
    · exact fireNmi_anticOnly _ _
    · exact AnticOnly.refl s

theorem snapshotIfDue_anticOnly (vc : Nat) (s : State) : AnticOnly s (snapshotIfDue vc s) := rfl

theorem applySteals_anticOnly (s : State) : AnticOnly s (applySteals s) :=
  (AnticOnly.setAntic _ _).trans (skipTo_anticOnly _ _)

theorem tickTail_anticOnly (vc : Nat) (b : Bool) (s : State) : AnticOnly s (tickTail vc b s) :=
  (((applyWsync_anticOnly b s).trans (fireIfDue_anticOnly _)).trans (snapshotIfDue_anticOnly vc _)).trans
    (applySteals_anticOnly _)

theorem scheduleLine_anticOnly (s : State) : AnticOnly s (scheduleLine s) := rfl

/-! ### Mode lines -/

/-- ANTIC after a mode line, as far as every instruction agrees: the raster, the registers that the CPU writes and the
latches stay, and the height and the next scan line are in their ranges. -/
structure ModeLineEffect (a b : Antic) : Prop where
  frame : b = { a with
    ir := b.ir, dlist := b.dlist, videoMemory := b.videoMemory, vscrolActive := b.vscrolActive
    voffset := b.voffset, lineHeight := b.lineHeight, nextScanLine := b.nextScanLine }
  height_pos : 1 ≤ b.lineHeight
  height_le : b.lineHeight ≤ 16
  next : b.nextScanLine = 8 ∨ b.nextScanLine = nextLine a.startScanLine b.lineHeight

theorem nextLine_visible {start height : Nat} (h : 8 ≤ start) : visible (nextLine start height) = true := by
  unfold nextLine visible
  split
  · simp; omega
  · simp

theorem vscrollHeight_bounds (m : DisplayMode) (vs active : Bool) (v : BitVec 4) :
    1 ≤ (vscrollHeight m.lines vs active v).1 ∧ (vscrollHeight m.lines vs active v).1 ≤ 16 := by
  have hl : 1 ≤ m.lines ∧ m.lines ≤ 16 := by cases m <;> decide
  have := v.isLt
  cases vs <;> cases active <;> simp only [vscrollHeight] <;> omega

theorem displayModeLine_effect (m : DisplayMode) (dli : Bool) (lms : Option Word) (vs hs : Bool) (s : State) :
    ModeLineEffect s.antic (displayModeLine m dli lms vs hs s).antic :=
  ⟨rfl, (vscrollHeight_bounds m vs s.antic.vscrolActive _).1, (vscrollHeight_bounds m vs s.antic.vscrolActive _).2,
    .inr rfl⟩

theorem emptyLine_effect (ir : Byte) (h n : Nat) (d : Word) (s : State) (h1 : 1 ≤ h) (h2 : h ≤ 16)
    (hn : n = 8 ∨ n = nextLine s.antic.startScanLine h) : ModeLineEffect s.antic (emptyLine ir h n d s).antic :=
  ⟨rfl, h1, h2, hn⟩

/-- What a display-list instruction does to ANTIC. -/
theorem exec_displayList_effect {i : Instr} {s t : State} (hi : i.source = .displayList) (h : exec i s = .next t) :
    ModeLineEffect s.antic t.antic ∧ AnticOnly s t ∧ t.out = { s.out with descr := t.out.descr } := by
  have mode : ∀ (m : DisplayMode) (dli : Bool) (lms : Option Word) (vs hs : Bool),
      .next (displayModeLine m dli lms vs hs s) = (.next t : Res) →
      ModeLineEffect s.antic t.antic ∧ AnticOnly s t ∧ t.out = { s.out with descr := t.out.descr } := by
    intro m dli lms vs hs h
    cases h
    exact ⟨displayModeLine_effect m dli lms vs hs s, displayModeLine_anticOnly m dli lms vs hs s, rfl⟩
  have empty : ∀ (ir : Byte) (n next : Nat) (d : Word), 1 ≤ n → n ≤ 16 →
      (next = 8 ∨ next = nextLine s.antic.startScanLine n) → .next (emptyLine ir n next d s) = (.next t : Res) →
      ModeLineEffect s.antic t.antic ∧ AnticOnly s t ∧ t.out = { s.out with descr := t.out.descr } := by
    intro ir n next d h1 h2 h3 h
    cases h
    exact ⟨emptyLine_effect ir n next d s h1 h2 h3, emptyLine_anticOnly ir n next d s, rfl⟩
  cases i
  case mode2 dli lms vs hs => exact mode .m2 dli lms vs hs h
  case mode3 dli lms vs hs => exact mode .m3 dli lms vs hs h
  case mode4 dli lms vs hs => exact mode .m4 dli lms vs hs h
  case mode5 dli lms vs hs => exact mode .m5 dli lms vs hs h
  case mode6 dli lms vs hs => exact mode .m6 dli lms vs hs h
  case mode7 dli lms vs hs => exact mode .m7 dli lms vs hs h
  case mode8 dli lms vs hs => exact mode .m8 dli lms vs hs h
  case mode9 dli lms vs hs => exact mode .m9 dli lms vs hs h
  case modeA dli lms vs hs => exact mode .mA dli lms vs hs h
  case modeB dli lms vs hs => exact mode .mB dli lms vs hs h
  case modeC dli lms vs hs => exact mode .mC dli lms vs hs h
  case modeD dli lms vs hs => exact mode .mD dli lms vs hs h
  case modeE dli lms vs hs => exact mode .mE dli lms vs hs h
  case modeF dli lms vs hs => exact mode .mF dli lms vs hs h
  case blank dli n =>
    exact empty _ _ _ _ (Nat.le_add_left 1 _) (by have := n.isLt; omega) (.inr rfl) h
  case jmp dli x target => exact empty _ _ _ _ (Nat.le_refl 1) (by decide) (.inr rfl) h
  case jvb dli x target => exact empty _ _ _ _ (Nat.le_refl 1) (by decide) (.inl rfl) h
  all_goals cases hi

/-- Every fetched instruction is a display-list instruction. -/
theorem decodeDl_source (b0 b1 b2 : Byte) : (decodeDl b0 b1 b2).source = .displayList := by
  have h : ∀ n : Fin 16, (dlClasses[n] b0 b1 b2).source = .displayList := by
    intro n
    fin_cases n <;> first | rfl | (show (decodeJump b0 b1 b2).source = _; unfold decodeJump; split <;> rfl)
  exact h _

/-- A mode-line start: a next state, the effect of a mode line that starts on this scan line, and one descriptor. -/
theorem prepareModeLine_effect {s t : State} (h : prepareModeLine s = .next t) :
    ModeLineEffect { s.antic with startScanLine := s.antic.scanLine } t.antic ∧ AnticOnly s t ∧
      t.out = { s.out with descr := t.out.descr } := by
  unfold prepareModeLine at h
  simp only at h
  split at h
  · obtain ⟨h1, h2, h3⟩ := exec_displayList_effect (decodeDl_source _ _ _) h
    exact ⟨h1, (AnticOnly.setAntic _ _).trans h2, h3⟩
  · cases h
    exact ⟨emptyLine_effect _ _ _ _ (s.setAntic { s.antic with startScanLine := s.antic.scanLine })
      (Nat.le_refl 1) (by decide) (.inr rfl), rfl, rfl⟩

/-! ### Steal windows -/

theorem windowsOkFrom_mono {ws : List Window} {lo lo' : Nat} (hl : lo' ≤ lo) (h : windowsOkFrom lo ws = true) :
    windowsOkFrom lo' ws = true := by
  cases ws with
  | nil => rfl
  | cons w ws =>
    simp only [windowsOkFrom, Bool.and_eq_true, decide_eq_true_eq] at h ⊢
    exact ⟨⟨⟨by omega, h.1.1.2⟩, h.1.2⟩, h.2⟩

/-- The words of 40_antic_timing R142: every window is non-empty and ends by cycle 112, and none starts before an earlier
one has ended. -/
theorem windowsOkFrom_iff {ws : List Window} {lo : Nat} : windowsOkFrom lo ws = true ↔
    (∀ w ∈ ws, lo ≤ w.start ∧ 1 ≤ w.len ∧ w.start + w.len ≤ 112) ∧ ws.Pairwise fun a b => a.start + a.len ≤ b.start := by
  induction ws generalizing lo with
  | nil => simp [windowsOkFrom]
  | cons w ws ih =>
    simp only [windowsOkFrom, Bool.and_eq_true, decide_eq_true_eq, ih, List.mem_cons, forall_eq_or_imp,
      List.pairwise_cons]
    constructor
    · rintro ⟨⟨⟨h1, h2⟩, h3⟩, h4, h5⟩
      refine ⟨⟨⟨h1, h2, h3⟩, fun x hx => ⟨?_, (h4 x hx).2⟩⟩, fun x hx => (h4 x hx).1, h5⟩
      have := (h4 x hx).1; omega
    · rintro ⟨⟨⟨h1, h2, h3⟩, h4⟩, h5, h6⟩
      exact ⟨⟨⟨h1, h2⟩, h3⟩, fun x hx => ⟨h5 x hx, (h4 x hx).2⟩, h6⟩

/-- The walk over well-formed windows: it charges the first windows of the list, each of which begins by the counter or
where another charged one ends; the windows left start later than the cycle reached, which is the old one or the end of a
charged window, at the most 112. -/
theorem stealWalk_spec {ws : List Window} {lo c : Nat} (h : windowsOkFrom lo ws = true) :
    ∃ charged, ws = charged ++ (stealWalk ws c).1 ∧
      (∀ w ∈ charged, w.start ≤ c ∨ ∃ v ∈ charged, v.start + v.len = w.start) ∧
      (∀ w ∈ charged, w.start + w.len ≤ (stealWalk ws c).2) ∧
      (∀ w ∈ (stealWalk ws c).1, (stealWalk ws c).2 < w.start) ∧
      ((stealWalk ws c).2 = c ∨ ∃ w ∈ charged, (stealWalk ws c).2 = w.start + w.len) ∧
      c ≤ (stealWalk ws c).2 ∧ (stealWalk ws c).2 ≤ max c 112 := by
  induction ws generalizing lo c with
  | nil => exact ⟨[], rfl, by simp, by simp, by simp [stealWalk], .inl rfl, Nat.le_refl c, Nat.le_max_left c 112⟩
  | cons w ws ih =>
    have hw := windowsOkFrom_iff.mp h
    have hlater := (List.pairwise_cons.mp hw.2).1
    have hb := hw.1 w (List.mem_cons_self ..)
    simp only [windowsOkFrom, Bool.and_eq_true, decide_eq_true_eq] at h
    unfold stealWalk
    split
    · rename_i hc
      obtain ⟨d, i1, i2, i3, i4, i5, i6, i7⟩ := ih (c := max c (w.start + w.len)) h.2
      refine ⟨w :: d, congrArg (w :: ·) i1, ?_, ?_, i4, ?_, by omega, by omega⟩
      · intro x hx
        rcases List.mem_cons.mp hx with rfl | hx
        · exact .inl hc
        · rcases i2 x hx with hx' | ⟨v, hv, hv'⟩
          · have hge := hlater x (i1 ▸ List.mem_append_left _ hx)
            by_cases hxc : x.start ≤ c
            · exact .inl hxc
            · exact .inr ⟨w, List.mem_cons_self .., by omega⟩
          · exact .inr ⟨v, List.mem_cons_of_mem _ hv, hv'⟩
      · intro x hx
        rcases List.mem_cons.mp hx with rfl | hx
        · omega
        · exact i3 x hx
      · rcases i5 with i5 | ⟨v, hv, hv'⟩
        · rcases Nat.le_total (w.start + w.len) c with hle | hle
          · exact .inl (by omega)
          · exact .inr ⟨w, List.mem_cons_self .., by omega⟩
        · exact .inr ⟨v, List.mem_cons_of_mem _ hv, hv'⟩
    · rename_i hc
      refine ⟨[], rfl, by simp, by simp, ?_, .inl rfl, Nat.le_refl c, Nat.le_max_left c 112⟩
      intro x hx
      rcases List.mem_cons.mp hx with rfl | hx
      · simpa using hc
      · have := hlater x hx; simp only at hc ⊢; omega

/-- The windows left are well formed again. -/
theorem stealWalk_ok {ws : List Window} {lo c : Nat} (h : windowsOkFrom lo ws = true) :
    windowsOk (stealWalk ws c).1 = true := by
  induction ws generalizing lo c with
  | nil => rfl
  | cons w ws ih =>
    unfold stealWalk
    split
    · simp only [windowsOkFrom, Bool.and_eq_true] at h; exact ih h.2
    · exact windowsOkFrom_mono (Nat.zero_le _) h

/-- `apply_steals()` changes the windows, the cycle, the total and the stolen cycles, and nothing else. -/
theorem applySteals_eq (s : State) : applySteals s = { s with
    antic := { s.antic with
      dmaWindows := (stealWalk s.antic.dmaWindows s.antic.cycle).1
      cycle := (stealWalk s.antic.dmaWindows s.antic.cycle).2
      totalCycles := s.antic.totalCycles + ((stealWalk s.antic.dmaWindows s.antic.cycle).2 - s.antic.cycle) }
    out := { s.out with
      stolen := s.out.stolen + ((stealWalk s.antic.dmaWindows s.antic.cycle).2 - s.antic.cycle) } } := rfl

/-! ### The parts of a tick, field by field -/

@[simp] theorem skipTo_cycle (n : Nat) (s : State) : (skipTo n s).antic.cycle = n := rfl
@[simp] theorem skipTo_total (n : Nat) (s : State) :
    (skipTo n s).antic.totalCycles = s.antic.totalCycles + (n - s.antic.cycle) := rfl
@[simp] theorem skipTo_stolen (n : Nat) (s : State) : (skipTo n s).out.stolen = s.out.stolen + (n - s.antic.cycle) := rfl

/-- `skipTo` changes the cycle, the total and the stolen cycles, and nothing else. -/
theorem skipTo_eq (n : Nat) (s : State) : skipTo n s = { s with
    antic := { s.antic with cycle := n, totalCycles := s.antic.totalCycles + (n - s.antic.cycle) }
    out := { s.out with stolen := s.out.stolen + (n - s.antic.cycle) } } := rfl

/-- The stall lands inside the line, at or after the counter. -/
theorem wsyncTarget_bounds {c : Nat} (h : c < 114) : c ≤ wsyncTarget c ∧ wsyncTarget c ≤ 113 := by
  unfold wsyncTarget; split <;> omega

/-! ### Steps (5) to (8) together -/

/-- What WSYNC leaves of the fields that the later steps use. -/
theorem applyWsync_fields (b : Bool) (s : State) :
    let stall := s.antic.wsyncPending && b
    (applyWsync b s).antic = { s.antic with
        wsyncPending := if stall then false else s.antic.wsyncPending
        cycle := if stall then wsyncTarget s.antic.cycle else s.antic.cycle
        totalCycles := s.antic.totalCycles + ((if stall then wsyncTarget s.antic.cycle else s.antic.cycle) - s.antic.cycle) } ∧
      (applyWsync b s).out = { s.out with
        stolen := s.out.stolen + ((if stall then wsyncTarget s.antic.cycle else s.antic.cycle) - s.antic.cycle) } := by
  unfold applyWsync
  cases h : s.antic.wsyncPending && b
  · simp
  · exact ⟨rfl, rfl⟩

/-- What the fire step leaves of the raster, and that it takes every request from cycle 5 on. -/
theorem fireIfDue_fields (s : State) :
    (fireIfDue s).antic = { s.antic with
        nmiPending := if s.antic.cycle < 5 then s.antic.nmiPending else none
        nmist := (fireIfDue s).antic.nmist } ∧
      (fireIfDue s).out.stolen = s.out.stolen := by
  unfold fireIfDue
  cases h : s.antic.nmiPending with
  | none => simp [← h]
  | some k =>
    by_cases hc : 5 ≤ s.antic.cycle
    · have hc' : ¬ s.antic.cycle < 5 := by omega
      simp only [hc, hc', if_true, if_false]
      exact ⟨rfl, rfl⟩
    · have hc' : s.antic.cycle < 5 := by omega
      simp [hc, hc', ← h]

/-- Steps (5) to (8): the stall first, then the fire at the cycle it reaches, then the steals from there on. -/
theorem tickTail_fields (vc : Nat) (b : Bool) (s : State) :
    let stall := s.antic.wsyncPending && b
    let c := if stall then wsyncTarget s.antic.cycle else s.antic.cycle
    let walk := stealWalk s.antic.dmaWindows c
    (tickTail vc b s).antic.wsyncPending = (if stall then false else s.antic.wsyncPending) ∧
    (tickTail vc b s).antic.scanLine = s.antic.scanLine ∧
    (tickTail vc b s).antic.nmiPending = (if c < 5 then s.antic.nmiPending else none) ∧
    (tickTail vc b s).antic.dmaWindows = walk.1 ∧
    (tickTail vc b s).antic.cycle = walk.2 ∧
    (tickTail vc b s).out.stolen = s.out.stolen + (c - s.antic.cycle) + (walk.2 - c) := by
  obtain ⟨wa, wo⟩ := applyWsync_fields b s
  obtain ⟨fa, fo⟩ := fireIfDue_fields (applyWsync b s)
  unfold tickTail
  rw [applySteals_eq]
  have ha : ∀ u : State, (snapshotIfDue vc u).antic.dmaWindows = u.antic.dmaWindows ∧
      (snapshotIfDue vc u).antic.cycle = u.antic.cycle ∧ (snapshotIfDue vc u).out.stolen = u.out.stolen ∧
      (snapshotIfDue vc u).antic.wsyncPending = u.antic.wsyncPending ∧
      (snapshotIfDue vc u).antic.scanLine = u.antic.scanLine ∧
      (snapshotIfDue vc u).antic.nmiPending = u.antic.nmiPending := fun u => ⟨rfl, rfl, rfl, rfl, rfl, rfl⟩
  obtain ⟨h1, h2, h3, h4, h5, h6⟩ := ha (fireIfDue (applyWsync b s))
  simp only [h1, h2, h3, h4, h5, h6, fo]
  rw [fa, wo, wa]
  exact ⟨rfl, rfl, rfl, rfl, rfl, rfl⟩

/-! ### Storage -/

theorem reset_mem_wf : Memory.wf unlistedByte State.reset.mem = true := rfl

theorem muxSet_wf (mux : MuxId) (source : Nat) (mask : Byte) (s : State) (hj : Memory.wf unsetMask s.joyMux = true)
    (hc : Memory.wf unsetMask s.consolMux = true) :
    Memory.wf unsetMask (muxSet mux source mask s).joyMux = true ∧
      Memory.wf unsetMask (muxSet mux source mask s).consolMux = true := by
  cases mux
  · exact ⟨memory_write_wf source mask hj, hc⟩
  · exact ⟨hj, memory_write_wf source mask hc⟩

end Sys2Proof.Machine
end

