-- ==== Sys2Proof/Laws/PerInstr.lean ====
section
/-! SUPPORT. Statements about every instruction, one lemma for each constructor. -/

namespace Sys2Proof.Laws.EncodedLength

/-- The length of an encoding is told from its first bytes alone: a display-list instruction's from its first byte
(30_encoding R102), a bus access's from its direction byte, since only a write carries a value. -/
def Statement (i : Instr) : Prop :=
  match i.source with
  | .displayList => ∃ b0 rest, encode i = b0 :: rest ∧ rest.length + 1 = dlLength b0
  | .bus => ∃ lo hi dir rest, encode i = lo :: hi :: dir :: rest ∧ rest.length = if dir = 0 then 1 else 0

/-- The encoding of a display mode line is as long as its first byte tells. -/
theorem modeBytes_length {m : BitVec 4} (h0 : m ≠ 0) (h1 : m ≠ 1) (dli : Bool) (lms : Option Word) (vs hs : Bool) :
    ∃ b0 rest, modeBytes m dli lms vs hs = b0 :: rest ∧ rest.length + 1 = dlLength b0 := by
  have key : ∀ m : BitVec 4, m ≠ 0 → m ≠ 1 → ∀ dli l vs hs : Bool,
      dlLength (modeByte m dli l vs hs) = if l then 3 else 1 := by decide
  refine ⟨_, _, rfl, ?_⟩
  rw [key m h0 h1]
  cases lms <;> rfl

/-- The encoding of a jump is three bytes long. -/
theorem jumpByte_length (dli jvb : Bool) (x : BitVec 2) : dlLength (jumpByte dli jvb x) = 3 := by
  revert dli jvb x; decide

/-- The encoding of BLANK is one byte long. -/
theorem blankByte_length (dli : Bool) (n : BitVec 3) : dlLength (blankByte dli n) = 1 := by
  revert dli n; decide

theorem blank (dli : Bool) (count : BitVec 3) : Statement (.blank dli count) :=
  ⟨_, _, rfl, (blankByte_length dli count).symm⟩
theorem jmp (dli : Bool) (ignored : BitVec 2) (target : Word) : Statement (.jmp dli ignored target) :=
  ⟨_, _, rfl, (jumpByte_length _ _ _).symm⟩
theorem jvb (dli : Bool) (ignored : BitVec 2) (target : Word) : Statement (.jvb dli ignored target) :=
  ⟨_, _, rfl, (jumpByte_length _ _ _).symm⟩
theorem mode2 (dli : Bool) (lms : Option Word) (vscrol hscrol : Bool) : Statement (.mode2 dli lms vscrol hscrol) :=
  modeBytes_length (by decide) (by decide) dli lms vscrol hscrol
theorem mode3 (dli : Bool) (lms : Option Word) (vscrol hscrol : Bool) : Statement (.mode3 dli lms vscrol hscrol) :=
  modeBytes_length (by decide) (by decide) dli lms vscrol hscrol
theorem mode4 (dli : Bool) (lms : Option Word) (vscrol hscrol : Bool) : Statement (.mode4 dli lms vscrol hscrol) :=
  modeBytes_length (by decide) (by decide) dli lms vscrol hscrol
theorem mode5 (dli : Bool) (lms : Option Word) (vscrol hscrol : Bool) : Statement (.mode5 dli lms vscrol hscrol) :=
  modeBytes_length (by decide) (by decide) dli lms vscrol hscrol
theorem mode6 (dli : Bool) (lms : Option Word) (vscrol hscrol : Bool) : Statement (.mode6 dli lms vscrol hscrol) :=
  modeBytes_length (by decide) (by decide) dli lms vscrol hscrol
theorem mode7 (dli : Bool) (lms : Option Word) (vscrol hscrol : Bool) : Statement (.mode7 dli lms vscrol hscrol) :=
  modeBytes_length (by decide) (by decide) dli lms vscrol hscrol
theorem mode8 (dli : Bool) (lms : Option Word) (vscrol hscrol : Bool) : Statement (.mode8 dli lms vscrol hscrol) :=
  modeBytes_length (by decide) (by decide) dli lms vscrol hscrol
theorem mode9 (dli : Bool) (lms : Option Word) (vscrol hscrol : Bool) : Statement (.mode9 dli lms vscrol hscrol) :=
  modeBytes_length (by decide) (by decide) dli lms vscrol hscrol
theorem modeA (dli : Bool) (lms : Option Word) (vscrol hscrol : Bool) : Statement (.modeA dli lms vscrol hscrol) :=
  modeBytes_length (by decide) (by decide) dli lms vscrol hscrol
theorem modeB (dli : Bool) (lms : Option Word) (vscrol hscrol : Bool) : Statement (.modeB dli lms vscrol hscrol) :=
  modeBytes_length (by decide) (by decide) dli lms vscrol hscrol
theorem modeC (dli : Bool) (lms : Option Word) (vscrol hscrol : Bool) : Statement (.modeC dli lms vscrol hscrol) :=
  modeBytes_length (by decide) (by decide) dli lms vscrol hscrol
theorem modeD (dli : Bool) (lms : Option Word) (vscrol hscrol : Bool) : Statement (.modeD dli lms vscrol hscrol) :=
  modeBytes_length (by decide) (by decide) dli lms vscrol hscrol
theorem modeE (dli : Bool) (lms : Option Word) (vscrol hscrol : Bool) : Statement (.modeE dli lms vscrol hscrol) :=
  modeBytes_length (by decide) (by decide) dli lms vscrol hscrol
theorem modeF (dli : Bool) (lms : Option Word) (vscrol hscrol : Bool) : Statement (.modeF dli lms vscrol hscrol) :=
  modeBytes_length (by decide) (by decide) dli lms vscrol hscrol
theorem wDmactl (addr : Word) (v : Byte) : Statement (.wDmactl addr v) :=
  ⟨_, _, _, _, rfl, rfl⟩
theorem wChactl (addr : Word) (v : Byte) : Statement (.wChactl addr v) :=
  ⟨_, _, _, _, rfl, rfl⟩
theorem wDlistl (addr : Word) (v : Byte) : Statement (.wDlistl addr v) :=
  ⟨_, _, _, _, rfl, rfl⟩
theorem wDlisth (addr : Word) (v : Byte) : Statement (.wDlisth addr v) :=
  ⟨_, _, _, _, rfl, rfl⟩
theorem wHscrol (addr : Word) (v : Byte) : Statement (.wHscrol addr v) :=
  ⟨_, _, _, _, rfl, rfl⟩
theorem wVscrol (addr : Word) (v : Byte) : Statement (.wVscrol addr v) :=
  ⟨_, _, _, _, rfl, rfl⟩
theorem wAnticUnused6 (addr : Word) (v : Byte) : Statement (.wAnticUnused6 addr v) :=
  ⟨_, _, _, _, rfl, rfl⟩
theorem wPmbase (addr : Word) (v : Byte) : Statement (.wPmbase addr v) :=
  ⟨_, _, _, _, rfl, rfl⟩
theorem wAnticUnused8 (addr : Word) (v : Byte) : Statement (.wAnticUnused8 addr v) :=
  ⟨_, _, _, _, rfl, rfl⟩
theorem wChbase (addr : Word) (v : Byte) : Statement (.wChbase addr v) :=
  ⟨_, _, _, _, rfl, rfl⟩
theorem wWsync (addr : Word) (v : Byte) : Statement (.wWsync addr v) :=
  ⟨_, _, _, _, rfl, rfl⟩
theorem wAnticUnusedb (addr : Word) (v : Byte) : Statement (.wAnticUnusedb addr v) :=
  ⟨_, _, _, _, rfl, rfl⟩
theorem wAnticUnusedc (addr : Word) (v : Byte) : Statement (.wAnticUnusedc addr v) :=
  ⟨_, _, _, _, rfl, rfl⟩
theorem wAnticUnusedd (addr : Word) (v : Byte) : Statement (.wAnticUnusedd addr v) :=
  ⟨_, _, _, _, rfl, rfl⟩
theorem wNmien (addr : Word) (v : Byte) : Statement (.wNmien addr v) :=
  ⟨_, _, _, _, rfl, rfl⟩
theorem wNmires (addr : Word) (v : Byte) : Statement (.wNmires addr v) :=
  ⟨_, _, _, _, rfl, rfl⟩
theorem rAntic0Ff (addr : Word) : Statement (.rAntic0Ff addr) :=
  ⟨_, _, _, _, rfl, rfl⟩
theorem rAntic1Ff (addr : Word) : Statement (.rAntic1Ff addr) :=
  ⟨_, _, _, _, rfl, rfl⟩
theorem rAntic2Ff (addr : Word) : Statement (.rAntic2Ff addr) :=
  ⟨_, _, _, _, rfl, rfl⟩
theorem rAntic3Ff (addr : Word) : Statement (.rAntic3Ff addr) :=
  ⟨_, _, _, _, rfl, rfl⟩
theorem rAntic4Ff (addr : Word) : Statement (.rAntic4Ff addr) :=
  ⟨_, _, _, _, rfl, rfl⟩
theorem rAntic5Ff (addr : Word) : Statement (.rAntic5Ff addr) :=
  ⟨_, _, _, _, rfl, rfl⟩
theorem rAntic6Ff (addr : Word) : Statement (.rAntic6Ff addr) :=
  ⟨_, _, _, _, rfl, rfl⟩
theorem rAntic7Ff (addr : Word) : Statement (.rAntic7Ff addr) :=
  ⟨_, _, _, _, rfl, rfl⟩
theorem rAntic8Ff (addr : Word) : Statement (.rAntic8Ff addr) :=
  ⟨_, _, _, _, rfl, rfl⟩
theorem rAntic9Ff (addr : Word) : Statement (.rAntic9Ff addr) :=
  ⟨_, _, _, _, rfl, rfl⟩
theorem rAnticaFf (addr : Word) : Statement (.rAnticaFf addr) :=
  ⟨_, _, _, _, rfl, rfl⟩
theorem rVcount (addr : Word) : Statement (.rVcount addr) :=
  ⟨_, _, _, _, rfl, rfl⟩
theorem rPenh (addr : Word) : Statement (.rPenh addr) :=
  ⟨_, _, _, _, rfl, rfl⟩
theorem rPenv (addr : Word) : Statement (.rPenv addr) :=
  ⟨_, _, _, _, rfl, rfl⟩
theorem rAnticeFf (addr : Word) : Statement (.rAnticeFf addr) :=
  ⟨_, _, _, _, rfl, rfl⟩
theorem rNmist (addr : Word) : Statement (.rNmist addr) :=
  ⟨_, _, _, _, rfl, rfl⟩
theorem wHposp0 (addr : Word) (v : Byte) : Statement (.wHposp0 addr v) :=
  ⟨_, _, _, _, rfl, rfl⟩
theorem wHposp1 (addr : Word) (v : Byte) : Statement (.wHposp1 addr v) :=
  ⟨_, _, _, _, rfl, rfl⟩
theorem wHposp2 (addr : Word) (v : Byte) : Statement (.wHposp2 addr v) :=
  ⟨_, _, _, _, rfl, rfl⟩
theorem wHposp3 (addr : Word) (v : Byte) : Statement (.wHposp3 addr v) :=
  ⟨_, _, _, _, rfl, rfl⟩
theorem wHposm0 (addr : Word) (v : Byte) : Statement (.wHposm0 addr v) :=
  ⟨_, _, _, _, rfl, rfl⟩
theorem wHposm1 (addr : Word) (v : Byte) : Statement (.wHposm1 addr v) :=
  ⟨_, _, _, _, rfl, rfl⟩
theorem wHposm2 (addr : Word) (v : Byte) : Statement (.wHposm2 addr v) :=
  ⟨_, _, _, _, rfl, rfl⟩
theorem wHposm3 (addr : Word) (v : Byte) : Statement (.wHposm3 addr v) :=
  ⟨_, _, _, _, rfl, rfl⟩
theorem wSizep0 (addr : Word) (v : Byte) : Statement (.wSizep0 addr v) :=
  ⟨_, _, _, _, rfl, rfl⟩
theorem wSizep1 (addr : Word) (v : Byte) : Statement (.wSizep1 addr v) :=
  ⟨_, _, _, _, rfl, rfl⟩
theorem wSizep2 (addr : Word) (v : Byte) : Statement (.wSizep2 addr v) :=
  ⟨_, _, _, _, rfl, rfl⟩
theorem wSizep3 (addr : Word) (v : Byte) : Statement (.wSizep3 addr v) :=
  ⟨_, _, _, _, rfl, rfl⟩
theorem wSizem (addr : Word) (v : Byte) : Statement (.wSizem addr v) :=
  ⟨_, _, _, _, rfl, rfl⟩
theorem wGrafp0 (addr : Word) (v : Byte) : Statement (.wGrafp0 addr v) :=
  ⟨_, _, _, _, rfl, rfl⟩
theorem wGrafp1 (addr : Word) (v : Byte) : Statement (.wGrafp1 addr v) :=
  ⟨_, _, _, _, rfl, rfl⟩
theorem wGrafp2 (addr : Word) (v : Byte) : Statement (.wGrafp2 addr v) :=
  ⟨_, _, _, _, rfl, rfl⟩
theorem wGrafp3 (addr : Word) (v : Byte) : Statement (.wGrafp3 addr v) :=
  ⟨_, _, _, _, rfl, rfl⟩
theorem wGrafm (addr : Word) (v : Byte) : Statement (.wGrafm addr v) :=
  ⟨_, _, _, _, rfl, rfl⟩
theorem wColpm0 (addr : Word) (v : Byte) : Statement (.wColpm0 addr v) :=
  ⟨_, _, _, _, rfl, rfl⟩
theorem wColpm1 (addr : Word) (v : Byte) : Statement (.wColpm1 addr v) :=
  ⟨_, _, _, _, rfl, rfl⟩
theorem wColpm2 (addr : Word) (v : Byte) : Statement (.wColpm2 addr v) :=
  ⟨_, _, _, _, rfl, rfl⟩
theorem wColpm3 (addr : Word) (v : Byte) : Statement (.wColpm3 addr v) :=
  ⟨_, _, _, _, rfl, rfl⟩
theorem wColpf0 (addr : Word) (v : Byte) : Statement (.wColpf0 addr v) :=
  ⟨_, _, _, _, rfl, rfl⟩
theorem wColpf1 (addr : Word) (v : Byte) : Statement (.wColpf1 addr v) :=
  ⟨_, _, _, _, rfl, rfl⟩
theorem wColpf2 (addr : Word) (v : Byte) : Statement (.wColpf2 addr v) :=
  ⟨_, _, _, _, rfl, rfl⟩
theorem wColpf3 (addr : Word) (v : Byte) : Statement (.wColpf3 addr v) :=
  ⟨_, _, _, _, rfl, rfl⟩
theorem wColbk (addr : Word) (v : Byte) : Statement (.wColbk addr v) :=
  ⟨_, _, _, _, rfl, rfl⟩
theorem wPrior (addr : Word) (v : Byte) : Statement (.wPrior addr v) :=
  ⟨_, _, _, _, rfl, rfl⟩
theorem wVdelay (addr : Word) (v : Byte) : Statement (.wVdelay addr v) :=
  ⟨_, _, _, _, rfl, rfl⟩
theorem wGractl (addr : Word) (v : Byte) : Statement (.wGractl addr v) :=
  ⟨_, _, _, _, rfl, rfl⟩
theorem wHitclr (addr : Word) (v : Byte) : Statement (.wHitclr addr v) :=
  ⟨_, _, _, _, rfl, rfl⟩
theorem wConsolW (addr : Word) (v : Byte) : Statement (.wConsolW addr v) :=
  ⟨_, _, _, _, rfl, rfl⟩
theorem rM0pf (addr : Word) : Statement (.rM0pf addr) :=
  ⟨_, _, _, _, rfl, rfl⟩
theorem rM1pf (addr : Word) : Statement (.rM1pf addr) :=
  ⟨_, _, _, _, rfl, rfl⟩
theorem rM2pf (addr : Word) : Statement (.rM2pf addr) :=
  ⟨_, _, _, _, rfl, rfl⟩
theorem rM3pf (addr : Word) : Statement (.rM3pf addr) :=
  ⟨_, _, _, _, rfl, rfl⟩
theorem rP0pf (addr : Word) : Statement (.rP0pf addr) :=
  ⟨_, _, _, _, rfl, rfl⟩
theorem rP1pf (addr : Word) : Statement (.rP1pf addr) :=
  ⟨_, _, _, _, rfl, rfl⟩
theorem rP2pf (addr : Word) : Statement (.rP2pf addr) :=
  ⟨_, _, _, _, rfl, rfl⟩
theorem rP3pf (addr : Word) : Statement (.rP3pf addr) :=
  ⟨_, _, _, _, rfl, rfl⟩
theorem rM0pl (addr : Word) : Statement (.rM0pl addr) :=
  ⟨_, _, _, _, rfl, rfl⟩
theorem rM1pl (addr : Word) : Statement (.rM1pl addr) :=
  ⟨_, _, _, _, rfl, rfl⟩
theorem rM2pl (addr : Word) : Statement (.rM2pl addr) :=
  ⟨_, _, _, _, rfl, rfl⟩
theorem rM3pl (addr : Word) : Statement (.rM3pl addr) :=
  ⟨_, _, _, _, rfl, rfl⟩
theorem rP0pl (addr : Word) : Statement (.rP0pl addr) :=
  ⟨_, _, _, _, rfl, rfl⟩
theorem rP1pl (addr : Word) : Statement (.rP1pl addr) :=
  ⟨_, _, _, _, rfl, rfl⟩
theorem rP2pl (addr : Word) : Statement (.rP2pl addr) :=
  ⟨_, _, _, _, rfl, rfl⟩
theorem rP3pl (addr : Word) : Statement (.rP3pl addr) :=
  ⟨_, _, _, _, rfl, rfl⟩
theorem rTrig0 (addr : Word) : Statement (.rTrig0 addr) :=
  ⟨_, _, _, _, rfl, rfl⟩
theorem rTrig1 (addr : Word) : Statement (.rTrig1 addr) :=
  ⟨_, _, _, _, rfl, rfl⟩
theorem rTrig2 (addr : Word) : Statement (.rTrig2 addr) :=
  ⟨_, _, _, _, rfl, rfl⟩
theorem rTrig3 (addr : Word) : Statement (.rTrig3 addr) :=
  ⟨_, _, _, _, rfl, rfl⟩
theorem rPal (addr : Word) : Statement (.rPal addr) :=
  ⟨_, _, _, _, rfl, rfl⟩
theorem rGtia15Ff (addr : Word) : Statement (.rGtia15Ff addr) :=
  ⟨_, _, _, _, rfl, rfl⟩
theorem rGtia16Ff (addr : Word) : Statement (.rGtia16Ff addr) :=
  ⟨_, _, _, _, rfl, rfl⟩
theorem rGtia17Ff (addr : Word) : Statement (.rGtia17Ff addr) :=
  ⟨_, _, _, _, rfl, rfl⟩
theorem rGtia18Ff (addr : Word) : Statement (.rGtia18Ff addr) :=
  ⟨_, _, _, _, rfl, rfl⟩
theorem rGtia19Ff (addr : Word) : Statement (.rGtia19Ff addr) :=
  ⟨_, _, _, _, rfl, rfl⟩
theorem rGtia1aFf (addr : Word) : Statement (.rGtia1aFf addr) :=
  ⟨_, _, _, _, rfl, rfl⟩
theorem rGtia1bFf (addr : Word) : Statement (.rGtia1bFf addr) :=
  ⟨_, _, _, _, rfl, rfl⟩
theorem rGtia1cFf (addr : Word) : Statement (.rGtia1cFf addr) :=
  ⟨_, _, _, _, rfl, rfl⟩
theorem rGtia1dFf (addr : Word) : Statement (.rGtia1dFf addr) :=
  ⟨_, _, _, _, rfl, rfl⟩
theorem rGtia1eFf (addr : Word) : Statement (.rGtia1eFf addr) :=
  ⟨_, _, _, _, rfl, rfl⟩
theorem rConsol (addr : Word) : Statement (.rConsol addr) :=
  ⟨_, _, _, _, rfl, rfl⟩
theorem wAudf1 (addr : Word) (v : Byte) : Statement (.wAudf1 addr v) :=
  ⟨_, _, _, _, rfl, rfl⟩
theorem wAudc1 (addr : Word) (v : Byte) : Statement (.wAudc1 addr v) :=
  ⟨_, _, _, _, rfl, rfl⟩
theorem wAudf2 (addr : Word) (v : Byte) : Statement (.wAudf2 addr v) :=
  ⟨_, _, _, _, rfl, rfl⟩
theorem wAudc2 (addr : Word) (v : Byte) : Statement (.wAudc2 addr v) :=
  ⟨_, _, _, _, rfl, rfl⟩
theorem wAudf3 (addr : Word) (v : Byte) : Statement (.wAudf3 addr v) :=
  ⟨_, _, _, _, rfl, rfl⟩
theorem wAudc3 (addr : Word) (v : Byte) : Statement (.wAudc3 addr v) :=
  ⟨_, _, _, _, rfl, rfl⟩
theorem wAudf4 (addr : Word) (v : Byte) : Statement (.wAudf4 addr v) :=
  ⟨_, _, _, _, rfl, rfl⟩
theorem wAudc4 (addr : Word) (v : Byte) : Statement (.wAudc4 addr v) :=
  ⟨_, _, _, _, rfl, rfl⟩
theorem wAudctl (addr : Word) (v : Byte) : Statement (.wAudctl addr v) :=
  ⟨_, _, _, _, rfl, rfl⟩
theorem wStimer (addr : Word) (v : Byte) : Statement (.wStimer addr v) :=
  ⟨_, _, _, _, rfl, rfl⟩
theorem wSkres (addr : Word) (v : Byte) : Statement (.wSkres addr v) :=
  ⟨_, _, _, _, rfl, rfl⟩
theorem wPotgo (addr : Word) (v : Byte) : Statement (.wPotgo addr v) :=
  ⟨_, _, _, _, rfl, rfl⟩
theorem wPokeyUnusedc (addr : Word) (v : Byte) : Statement (.wPokeyUnusedc addr v) :=
  ⟨_, _, _, _, rfl, rfl⟩
theorem wSerout (addr : Word) (v : Byte) : Statement (.wSerout addr v) :=
  ⟨_, _, _, _, rfl, rfl⟩
theorem wIrqen (addr : Word) (v : Byte) : Statement (.wIrqen addr v) :=
  ⟨_, _, _, _, rfl, rfl⟩
theorem wSkctl (addr : Word) (v : Byte) : Statement (.wSkctl addr v) :=
  ⟨_, _, _, _, rfl, rfl⟩
theorem rPot0 (addr : Word) : Statement (.rPot0 addr) :=
  ⟨_, _, _, _, rfl, rfl⟩
theorem rPot1 (addr : Word) : Statement (.rPot1 addr) :=
  ⟨_, _, _, _, rfl, rfl⟩
theorem rPot2 (addr : Word) : Statement (.rPot2 addr) :=
  ⟨_, _, _, _, rfl, rfl⟩
theorem rPot3 (addr : Word) : Statement (.rPot3 addr) :=
  ⟨_, _, _, _, rfl, rfl⟩
theorem rPot4 (addr : Word) : Statement (.rPot4 addr) :=
  ⟨_, _, _, _, rfl, rfl⟩
theorem rPot5 (addr : Word) : Statement (.rPot5 addr) :=
  ⟨_, _, _, _, rfl, rfl⟩
theorem rPot6 (addr : Word) : Statement (.rPot6 addr) :=
  ⟨_, _, _, _, rfl, rfl⟩
theorem rPot7 (addr : Word) : Statement (.rPot7 addr) :=
  ⟨_, _, _, _, rfl, rfl⟩
theorem rAllpot (addr : Word) : Statement (.rAllpot addr) :=
  ⟨_, _, _, _, rfl, rfl⟩
theorem rKbcode (addr : Word) : Statement (.rKbcode addr) :=
  ⟨_, _, _, _, rfl, rfl⟩
theorem rRandom (addr : Word) : Statement (.rRandom addr) :=
  ⟨_, _, _, _, rfl, rfl⟩
theorem rPokeybFf (addr : Word) : Statement (.rPokeybFf addr) :=
  ⟨_, _, _, _, rfl, rfl⟩
theorem rPokeycFf (addr : Word) : Statement (.rPokeycFf addr) :=
  ⟨_, _, _, _, rfl, rfl⟩
theorem rSerin (addr : Word) : Statement (.rSerin addr) :=
  ⟨_, _, _, _, rfl, rfl⟩
theorem rIrqst (addr : Word) : Statement (.rIrqst addr) :=
  ⟨_, _, _, _, rfl, rfl⟩
theorem rSkstat (addr : Word) : Statement (.rSkstat addr) :=
  ⟨_, _, _, _, rfl, rfl⟩
theorem wPorta (addr : Word) (v : Byte) : Statement (.wPorta addr v) :=
  ⟨_, _, _, _, rfl, rfl⟩
theorem rPorta (addr : Word) : Statement (.rPorta addr) :=
  ⟨_, _, _, _, rfl, rfl⟩
theorem wPortb (addr : Word) (v : Byte) : Statement (.wPortb addr v) :=
  ⟨_, _, _, _, rfl, rfl⟩
theorem rPortb (addr : Word) : Statement (.rPortb addr) :=
  ⟨_, _, _, _, rfl, rfl⟩
theorem wPactl (addr : Word) (v : Byte) : Statement (.wPactl addr v) :=
  ⟨_, _, _, _, rfl, rfl⟩
theorem rPactl (addr : Word) : Statement (.rPactl addr) :=
  ⟨_, _, _, _, rfl, rfl⟩
theorem wPbctl (addr : Word) (v : Byte) : Statement (.wPbctl addr v) :=
  ⟨_, _, _, _, rfl, rfl⟩
theorem rPbctl (addr : Word) : Statement (.rPbctl addr) :=
  ⟨_, _, _, _, rfl, rfl⟩
theorem wUnmappedD1 (addr : Word) (v : Byte) : Statement (.wUnmappedD1 addr v) :=
  ⟨_, _, _, _, rfl, rfl⟩
theorem rUnmappedD1 (addr : Word) : Statement (.rUnmappedD1 addr) :=
  ⟨_, _, _, _, rfl, rfl⟩
theorem wUnmappedD6 (addr : Word) (v : Byte) : Statement (.wUnmappedD6 addr v) :=
  ⟨_, _, _, _, rfl, rfl⟩
theorem rUnmappedD6 (addr : Word) : Statement (.rUnmappedD6 addr) :=
  ⟨_, _, _, _, rfl, rfl⟩
theorem wUnmappedD7 (addr : Word) (v : Byte) : Statement (.wUnmappedD7 addr v) :=
  ⟨_, _, _, _, rfl, rfl⟩
theorem rUnmappedD7 (addr : Word) : Statement (.rUnmappedD7 addr) :=
  ⟨_, _, _, _, rfl, rfl⟩
theorem wCartctl (addr : Word) (v : Byte) : Statement (.wCartctl addr v) :=
  ⟨_, _, _, _, rfl, rfl⟩
theorem rCartctl (addr : Word) : Statement (.rCartctl addr) :=
  ⟨_, _, _, _, rfl, rfl⟩

end Sys2Proof.Laws.EncodedLength
end

