-- ==== Sys2Proof/Laws/Start.lean ====
section
/-! SUPPORT. What power-on with a configuration answers, and that this machine's own configuration breaks nothing. -/

namespace Sys2Proof.Machine

/-- A configuration starts exactly when it breaks nothing. -/
theorem start_reset_iff {h : Handed} : Start h (.next State.reset) ↔ ∀ r, ¬ configBreaks h r := by
  constructor
  · rintro (⟨r, _, hr⟩ | ⟨hr, _⟩)
    · cases hr
    · exact hr
  · exact fun hr => .inr ⟨hr, rfl⟩

/-- Power-on always has an answer. -/
theorem start_exists (h : Handed) : ∃ o, Start h o := by
  by_cases hr : ∀ r, ¬ configBreaks h r
  · exact ⟨_, start_reset_iff.mpr hr⟩
  · obtain ⟨r, hr⟩ := Classical.not_forall.mp hr
    exact ⟨_, .inl ⟨r, Classical.not_not.mp hr, rfl⟩⟩

theorem romImage_length {w : Nat} (rom : BitVec w → Byte) : (romImage rom).length = 2 ^ w := by
  unfold romImage; exact List.length_ofFn

theorem configInUse_osRom_length : configInUse.osRom.length = 16384 :=
  (romImage_length Config.osRom).trans (by norm_num)

theorem configInUse_basicRom_length {b : List Byte} (h : configInUse.basicRom = some b) : b.length = 8192 := by
  unfold configInUse at h
  simp only at h
  split at h
  · obtain rfl := Option.some.inj h; exact (romImage_length Config.basicRom).trans (by norm_num)
  · cases h

theorem configInUse_cart_total {c : HandedCart} (h : configInUse.cartridge = some c) : cartTotal c := by
  unfold configInUse at h
  simp only at h
  split at h
  · obtain rfl := Option.some.inj h
    exact ⟨fun _ => rfl, fun _ _ => rfl, fun _ _ _ => rfl, fun _ => rfl⟩
  · cases h

/-- The machine's own configuration breaks nothing: its types hold only admitted values. -/
theorem configInUse_ok (r : ConfigFault) : ¬ configBreaks configInUse r := by
  cases r <;> intro hr <;> simp only [configBreaks] at hr
  case ramSize => exact hr Config.ramSize rfl
  case osRom => exact hr configInUse_osRom_length
  case basicRom => obtain ⟨b, hb, hl⟩ := hr; exact hl (configInUse_basicRom_length hb)
  case cartridge => obtain ⟨c, hc, ht⟩ := hr; exact ht (configInUse_cart_total hc)
  case dmaSchedule => obtain ⟨k, hk⟩ := hr; exact Bool.noConfusion ((Config.dmaSchedule.admitted k).symm.trans hk)
  case visibleCycle => exact absurd hr (Nat.not_lt.mpr (Nat.le_of_lt_succ Config.visibleCycle.isLt))
  case volumeCurve => exact hr ⟨Config.volumeCurve.zero, Config.volumeCurve.rising⟩

end Sys2Proof.Machine
end

