-- ==== Sys2Proof/Laws/Steps.lean ====
section
/-! SUPPORT. What a step can be: the ways a tick, a bus access and a step reach their next state. Whole-machine proofs
split on these and unfold no step. -/

namespace Sys2Proof.Machine

/-- A tick inside a line, at a line that goes on with its mode line, or at a mode-line start. -/
theorem tick_cases {b : Bool} {s t : State} (h : tick b s = .next t) :
    ((advanceCounters s.antic).cycle ≠ 0 ∧
      t = tickTail Config.visibleCycle.val b (s.setAntic (advanceCounters s.antic))) ∨
    ((advanceCounters s.antic).cycle = 0 ∧ isNewModeLine (advanceCounters s.antic) = false ∧
      t = tickTail Config.visibleCycle.val b
        (scheduleLine (s.setAntic { advanceCounters s.antic with snapshotDone := false }))) ∨
    ((advanceCounters s.antic).cycle = 0 ∧ isNewModeLine (advanceCounters s.antic) = true ∧
      ∃ u, prepareModeLine (s.setAntic { advanceCounters s.antic with snapshotDone := false }) = .next u ∧
        t = tickTail Config.visibleCycle.val b (scheduleLine u)) := by
  unfold tick at h
  obtain ⟨u, hu, rfl⟩ := andThen_eq_next.mp h
  split at hu
  · rename_i hc
    obtain ⟨w, hw, rfl⟩ := andThen_eq_next.mp hu
    unfold modeLineStep at hw
    split at hw
    · rename_i hn
      exact .inr (.inr ⟨hc, hn, w, hw, rfl⟩)
    · rename_i hn
      cases hw
      exact .inr (.inl ⟨hc, Bool.eq_false_iff.mpr hn, rfl⟩)
  · rename_i hc
    cases hu
    exact .inl ⟨hc, rfl⟩

/-- A tick answers a next state. -/
theorem tick_completes (b : Bool) (s : State) : ∃ t, tick b s = .next t := by
  have hp : ∀ u, ∃ t, prepareModeLine u = .next t := by
    intro u
    unfold prepareModeLine
    simp only
    split
    · exact exec_completes _ _
    · exact ⟨_, rfl⟩
  unfold tick
  simp only
  split
  · unfold lineStart modeLineStep
    split
    · obtain ⟨t, ht⟩ := hp ((s.setAntic (advanceCounters s.antic)).setAntic
        { (s.setAntic (advanceCounters s.antic)).antic with snapshotDone := false })
      rw [ht]
      exact ⟨_, rfl⟩
    · exact ⟨_, rfl⟩
  · exact ⟨_, rfl⟩

/-- A bus write runs the register write it decodes to, or reaches storage. -/
theorem busWrite_cases {addr : Word} {v : Byte} {s t : State} (h : busWrite addr v s = .next t) :
    (∃ i, decodeWrite addr v = .ok i ∧ exec i s = .next t) ∨
    (decodeWrite addr v = .error .notIoPage ∧ t = memWriteCpu s addr v) := by
  unfold busWrite at h
  split at h
  · exact .inl ⟨_, ‹_›, h⟩
  · rename_i e he
    cases h
    refine .inr ⟨?_, rfl⟩
    rw [he]
    unfold decodeWrite at he
    split at he <;> first | cases he; rfl | cases he

/-- A bus read runs the register read it decodes to, or returns a byte of storage. -/
theorem busRead_cases {addr : Word} {s t : State} (h : busRead addr s = .next t) :
    (∃ i, decodeRead addr = .ok i ∧ exec i s = .next t) ∨
    (decodeRead addr = .error .notIoPage ∧ t = driveData (memReadCpu s addr) s) := by
  unfold busRead at h
  split at h
  · exact .inl ⟨_, ‹_›, h⟩
  · rename_i e he
    cases h
    refine .inr ⟨?_, rfl⟩
    rw [he]
    unfold decodeRead at he
    split at he <;> first | cases he; rfl | cases he

/-- A step is an idle tick or the next input. -/
theorem step_cases {s t : State} (h : step s = .next t) :
    (s.inputs = [] ∧ tick (Config.idleBoundary s.draws) ((beginStep [] s).setDraws (s.draws + 1)) = .next t) ∨
    ∃ i rest, s.inputs = i :: rest ∧ runInput i (beginStep rest s) = .next t := by
  unfold step at h
  split at h
  · exact .inl ⟨‹_›, h⟩
  · exact .inr ⟨_, _, ‹_›, h⟩

/-! ### Where a bus access goes -/

/-- A decoded bus write is a register access. -/
theorem decodeWrite_source {addr : Word} {v : Byte} {i : Instr} (h : decodeWrite addr v = .ok i) :
    i.source = .bus := by
  have g : ∀ n : Fin 32, (gtiaWrites[n] addr v).source = .bus := by intro n; fin_cases n <;> rfl
  have p : ∀ n : Fin 16, (pokeyWrites[n] addr v).source = .bus := by intro n; fin_cases n <;> rfl
  have q : ∀ n : Fin 4, (piaWrites[n] addr v).source = .bus := by intro n; fin_cases n <;> rfl
  have a : ∀ n : Fin 16, (anticWrites[n] addr v).source = .bus := by intro n; fin_cases n <;> rfl
  unfold decodeWrite at h
  split at h
  · cases h; exact g _
  · cases h; rfl
  · cases h; exact p _
  · cases h; exact q _
  · cases h; exact a _
  · cases h; rfl
  · cases h; rfl
  · cases h; rfl
  · cases h

/-- A decoded bus read is a register access. -/
theorem decodeRead_source {addr : Word} {i : Instr} (h : decodeRead addr = .ok i) : i.source = .bus := by
  have g : ∀ n : Fin 32, (gtiaReads[n] addr).source = .bus := by intro n; fin_cases n <;> rfl
  have p : ∀ n : Fin 16, (pokeyReads[n] addr).source = .bus := by intro n; fin_cases n <;> rfl
  have q : ∀ n : Fin 4, (piaReads[n] addr).source = .bus := by intro n; fin_cases n <;> rfl
  have a : ∀ n : Fin 16, (anticReads[n] addr).source = .bus := by intro n; fin_cases n <;> rfl
  unfold decodeRead at h
  split at h
  · cases h; exact g _
  · cases h; rfl
  · cases h; exact p _
  · cases h; exact q _
  · cases h; exact a _
  · cases h; rfl
  · cases h; rfl
  · cases h; rfl
  · cases h

end Sys2Proof.Machine
end

