-- ==== Sys2Proof/Laws/Synthesis.lean ====
section
/-! SUPPORT. What the shared operations of a synthesis cycle compute: the divider, the host samples, the filter sum. -/

namespace Sys2Proof.Machine

/-- A divider, whether it is clocked or not (45_pokey_synthesis R345). -/
theorem countDown_eq (clocked : Bool) (reload cnt : Nat) :
    countDown clocked reload cnt =
      (if clocked then if cnt = 0 then reload else cnt - 1 else cnt, clocked && decide (cnt = 0)) := by
  unfold countDown
  cases clocked
  · rfl
  · by_cases h : cnt = 0 <;> simp [h]

/-- The host samples of cycle `s` are the `k` with `s_k = s`: `samplesAt` of them from the first one on
(45_pokey_synthesis R355). -/
theorem samplesAt_iff {rate : Rat} (hr : 0 < rate) (s k : Nat) :
    ((k : Rat) * (clockHz : Rat) / rate).floor = (s : Int) ↔
      ((s : Rat) * rate / (clockHz : Rat)).ceil.toNat ≤ k ∧
        k < ((s : Rat) * rate / (clockHz : Rat)).ceil.toNat + samplesAt rate s := by
  have hC : (0 : Rat) < (clockHz : Rat) := by norm_num [clockHz]
  unfold samplesAt
  generalize (clockHz : Rat) = C at *
  have hceil : ∀ q : Rat, q.ceil = ⌈q⌉ := fun q => by rw [Rat.ceil_eq_neg_floor_neg]; rfl
  have hfloor : ∀ q : Rat, q.floor = ⌊q⌋ := fun q => rfl
  simp only [hceil, hfloor]
  have h0 : 0 ≤ ⌈(s : Rat) * rate / C⌉ := Int.ceil_nonneg (by positivity)
  have h1 : ⌈(s : Rat) * rate / C⌉ ≤ ⌈((s : Rat) + 1) * rate / C⌉ :=
    Int.ceil_le_ceil (div_le_div_of_nonneg_right (by nlinarith) hC.le)
  have lower : ((s : Int) : Rat) ≤ (k : Rat) * C / rate ↔ ⌈(s : Rat) * rate / C⌉ ≤ (k : Int) := by
    rw [Int.ceil_le, le_div_iff₀ hr, div_le_iff₀ hC]; push_cast; rfl
  have upper : (k : Rat) * C / rate < ((s : Int) : Rat) + 1 ↔ (k : Int) < ⌈((s : Rat) + 1) * rate / C⌉ := by
    rw [Int.lt_ceil, div_lt_iff₀ hr, lt_div_iff₀ hC]; push_cast; rfl
  rw [Int.floor_eq_iff, lower, upper]
  omega

/-- The filter sum by index: both lists read as 0 past their end (45_pokey_synthesis R355). -/
theorem firSum_eq (h x : List Rat) :
    firSum h x = ((List.range h.length).map fun j => h.getD j 0 * x.getD j 0).sum := by
  unfold firSum
  induction h generalizing x with
  | nil => simp
  | cons a h ih =>
    cases x with
    | nil => simp
    | cons b x =>
      rw [List.zipWith_cons_cons, List.sum_cons, ih, List.length_cons, List.range_succ_eq_map, List.map_cons,
        List.sum_cons, List.map_map]
      rfl

end Sys2Proof.Machine
end

