-- ==== Sys2Proof/Tests/Slice0.lean ====
section
/-! SUPPORT. Tests: the syntax check on ill-formed terms, words written out from the spec's encodings, the vectors of
spec/95_test_vectors.md one step at a time, and a witness for every statement with hypotheses. -/

namespace Sys2Proof.Machine.Slice0Tests

/-! ### Helpers -/

/-- The state after an outcome; a stop would give the power-on state. -/
def after : Res → State
  | .next s => s
  | .fault _ => State.reset
  | .refused _ => State.reset

/-- Power-on with the raster at `(cycle, line)`. -/
def at_ (cycle line : Nat) : State := State.reset.setAntic { Antic.zero with cycle := cycle, scanLine := line }

/-- The state after a bus write. -/
def wr (addr : Word) (v : Byte) (s : State) : State := after (busWrite addr v s)

/-- The byte a bus read returns. -/
def rd (addr : Word) (s : State) : Option Byte := (after (busRead addr s)).out.readData

/-- Whether every byte list decodes to its instruction with nothing left. -/
def decodesAll (src : Source) (l : List (List (List Byte × Instr))) : Bool :=
  l.flatten.all fun p => decide ((decode src p.1).toOption = some (p.2, []))

/-- Whether every instruction is refused by the syntax check. -/
def noneWellFormed (l : List (List Instr)) : Bool := l.flatten.all fun i => !i.wellFormed

/-! ### The syntax check -/

/-- A display-list instruction has nothing to check; a register access to its own register is well formed. -/
theorem test_wellFormed_good : ([.blank true 7, .jvb false 0 0x2000, .wDmactl 0xd4f0 0, .rConsol 0xd0ff,
    .wAudctl 0xd2f8 0, .rPbctl 0xd3ff, .wCartctl 0xd5ab 0, .rUnmappedD7 0xd7ff] : List Instr).all Instr.wellFormed = true := by
  decide

/-- A write of another register's address is refused: antic. -/
theorem test_wellFormed_bad_antic_writes : noneWellFormed [
    [.wDmactl 0xd401 0, .wChactl 0xd400 0, .wDlistl 0xd403 0, .wDlisth 0xd402 0],
    [.wHscrol 0xd405 0, .wVscrol 0xd404 0, .wAnticUnused6 0xd407 0, .wPmbase 0xd406 0],
    [.wAnticUnused8 0xd409 0, .wChbase 0xd408 0, .wWsync 0xd40b 0, .wAnticUnusedb 0xd40a 0],
    [.wAnticUnusedc 0xd40d 0, .wAnticUnusedd 0xd40c 0, .wNmien 0xd40f 0, .wNmires 0xd40e 0]] = true := by decide

/-- A read of another register's address is refused: antic. -/
theorem test_wellFormed_bad_antic_reads : noneWellFormed [
    [.rAntic0Ff 0xd401, .rAntic1Ff 0xd400, .rAntic2Ff 0xd403, .rAntic3Ff 0xd402],
    [.rAntic4Ff 0xd405, .rAntic5Ff 0xd404, .rAntic6Ff 0xd407, .rAntic7Ff 0xd406],
    [.rAntic8Ff 0xd409, .rAntic9Ff 0xd408, .rAnticaFf 0xd40b, .rVcount 0xd40a],
    [.rPenh 0xd40d, .rPenv 0xd40c, .rAnticeFf 0xd40f, .rNmist 0xd40e]] = true := by decide

/-- A write of another register's address is refused: gtia. -/
theorem test_wellFormed_bad_gtia_writes : noneWellFormed [
    [.wHposp0 0xd001 0, .wHposp1 0xd000 0, .wHposp2 0xd003 0, .wHposp3 0xd002 0],
    [.wHposm0 0xd005 0, .wHposm1 0xd004 0, .wHposm2 0xd007 0, .wHposm3 0xd006 0],
    [.wSizep0 0xd009 0, .wSizep1 0xd008 0, .wSizep2 0xd00b 0, .wSizep3 0xd00a 0],
    [.wSizem 0xd00d 0, .wGrafp0 0xd00c 0, .wGrafp1 0xd00f 0, .wGrafp2 0xd00e 0],
    [.wGrafp3 0xd011 0, .wGrafm 0xd010 0, .wColpm0 0xd013 0, .wColpm1 0xd012 0],
    [.wColpm2 0xd015 0, .wColpm3 0xd014 0, .wColpf0 0xd017 0, .wColpf1 0xd016 0],
    [.wColpf2 0xd019 0, .wColpf3 0xd018 0, .wColbk 0xd01b 0, .wPrior 0xd01a 0],
    [.wVdelay 0xd01d 0, .wGractl 0xd01c 0, .wHitclr 0xd01f 0, .wConsolW 0xd01e 0]] = true := by decide

/-- A read of another register's address is refused: gtia. -/
theorem test_wellFormed_bad_gtia_reads : noneWellFormed [
    [.rM0pf 0xd001, .rM1pf 0xd000, .rM2pf 0xd003, .rM3pf 0xd002],
    [.rP0pf 0xd005, .rP1pf 0xd004, .rP2pf 0xd007, .rP3pf 0xd006],
    [.rM0pl 0xd009, .rM1pl 0xd008, .rM2pl 0xd00b, .rM3pl 0xd00a],
    [.rP0pl 0xd00d, .rP1pl 0xd00c, .rP2pl 0xd00f, .rP3pl 0xd00e],
    [.rTrig0 0xd011, .rTrig1 0xd010, .rTrig2 0xd013, .rTrig3 0xd012],
    [.rPal 0xd015, .rGtia15Ff 0xd014, .rGtia16Ff 0xd017, .rGtia17Ff 0xd016],
    [.rGtia18Ff 0xd019, .rGtia19Ff 0xd018, .rGtia1aFf 0xd01b, .rGtia1bFf 0xd01a],
    [.rGtia1cFf 0xd01d, .rGtia1dFf 0xd01c, .rGtia1eFf 0xd01f, .rConsol 0xd01e]] = true := by decide

/-- A write of another register's address is refused: pokey. -/
theorem test_wellFormed_bad_pokey_writes : noneWellFormed [
    [.wAudf1 0xd201 0, .wAudc1 0xd200 0, .wAudf2 0xd203 0, .wAudc2 0xd202 0],
    [.wAudf3 0xd205 0, .wAudc3 0xd204 0, .wAudf4 0xd207 0, .wAudc4 0xd206 0],
    [.wAudctl 0xd209 0, .wStimer 0xd208 0, .wSkres 0xd20b 0, .wPotgo 0xd20a 0],
    [.wPokeyUnusedc 0xd20d 0, .wSerout 0xd20c 0, .wIrqen 0xd20f 0, .wSkctl 0xd20e 0]] = true := by decide

/-- A read of another register's address is refused: pokey. -/
theorem test_wellFormed_bad_pokey_reads : noneWellFormed [
    [.rPot0 0xd201, .rPot1 0xd200, .rPot2 0xd203, .rPot3 0xd202],
    [.rPot4 0xd205, .rPot5 0xd204, .rPot6 0xd207, .rPot7 0xd206],
    [.rAllpot 0xd209, .rKbcode 0xd208, .rRandom 0xd20b, .rPokeybFf 0xd20a],
    [.rPokeycFf 0xd20d, .rSerin 0xd20c, .rIrqst 0xd20f, .rSkstat 0xd20e]] = true := by decide

/-- A write of another register's address is refused: pia. -/
theorem test_wellFormed_bad_pia_writes : noneWellFormed [
    [.wPorta 0xd301 0, .wPortb 0xd300 0, .wPactl 0xd303 0, .wPbctl 0xd302 0]] = true := by decide

/-- A read of another register's address is refused: pia. -/
theorem test_wellFormed_bad_pia_reads : noneWellFormed [
    [.rPorta 0xd301, .rPortb 0xd300, .rPactl 0xd303, .rPbctl 0xd302]] = true := by decide

/-- A write of another register's address is refused: openPage. -/
theorem test_wellFormed_bad_openPage_writes : noneWellFormed [
    [.wUnmappedD1 0xd000 0, .wUnmappedD6 0xd700 0, .wUnmappedD7 0xd600 0, .wCartctl 0xd400 0]] = true := by decide

/-- A read of another register's address is refused: openPage. -/
theorem test_wellFormed_bad_openPage_reads : noneWellFormed [
    [.rUnmappedD1 0xd000, .rUnmappedD6 0xd700, .rUnmappedD7 0xd600, .rCartctl 0xd400]] = true := by decide

/-! ### Words written out from the encodings (30_encoding R100 to R108 and the register tables) -/

theorem test_decode_antic_writes : decodesAll .bus [
    [([0x00, 0xd4, 0, 0x51], .wDmactl 0xd400 0x51), ([0xe1, 0xd4, 0, 0x52], .wChactl 0xd4e1 0x52),
      ([0x02, 0xd4, 0, 0x53], .wDlistl 0xd402 0x53), ([0xe3, 0xd4, 0, 0x54], .wDlisth 0xd4e3 0x54),
      ([0x04, 0xd4, 0, 0x55], .wHscrol 0xd404 0x55), ([0xe5, 0xd4, 0, 0x56], .wVscrol 0xd4e5 0x56),
      ([0x06, 0xd4, 0, 0x57], .wAnticUnused6 0xd406 0x57), ([0xe7, 0xd4, 0, 0x58], .wPmbase 0xd4e7 0x58)],
    [([0x08, 0xd4, 0, 0x59], .wAnticUnused8 0xd408 0x59), ([0xe9, 0xd4, 0, 0x5a], .wChbase 0xd4e9 0x5a),
      ([0x0a, 0xd4, 0, 0x5b], .wWsync 0xd40a 0x5b), ([0xeb, 0xd4, 0, 0x5c], .wAnticUnusedb 0xd4eb 0x5c),
      ([0x0c, 0xd4, 0, 0x5d], .wAnticUnusedc 0xd40c 0x5d), ([0xed, 0xd4, 0, 0x5e], .wAnticUnusedd 0xd4ed 0x5e),
      ([0x0e, 0xd4, 0, 0x5f], .wNmien 0xd40e 0x5f), ([0xef, 0xd4, 0, 0x60], .wNmires 0xd4ef 0x60)]] = true := by decide

theorem test_decode_antic_reads : decodesAll .bus [
    [([0x00, 0xd4, 1], .rAntic0Ff 0xd400), ([0xe1, 0xd4, 1], .rAntic1Ff 0xd4e1),
      ([0x02, 0xd4, 1], .rAntic2Ff 0xd402), ([0xe3, 0xd4, 1], .rAntic3Ff 0xd4e3),
      ([0x04, 0xd4, 1], .rAntic4Ff 0xd404), ([0xe5, 0xd4, 1], .rAntic5Ff 0xd4e5),
      ([0x06, 0xd4, 1], .rAntic6Ff 0xd406), ([0xe7, 0xd4, 1], .rAntic7Ff 0xd4e7)],
    [([0x08, 0xd4, 1], .rAntic8Ff 0xd408), ([0xe9, 0xd4, 1], .rAntic9Ff 0xd4e9),
      ([0x0a, 0xd4, 1], .rAnticaFf 0xd40a), ([0xeb, 0xd4, 1], .rVcount 0xd4eb),
      ([0x0c, 0xd4, 1], .rPenh 0xd40c), ([0xed, 0xd4, 1], .rPenv 0xd4ed),
      ([0x0e, 0xd4, 1], .rAnticeFf 0xd40e), ([0xef, 0xd4, 1], .rNmist 0xd4ef)]] = true := by decide

theorem test_decode_gtia_writes : decodesAll .bus [
    [([0x00, 0xd0, 0, 0x51], .wHposp0 0xd000 0x51), ([0xc1, 0xd0, 0, 0x52], .wHposp1 0xd0c1 0x52),
      ([0x02, 0xd0, 0, 0x53], .wHposp2 0xd002 0x53), ([0xc3, 0xd0, 0, 0x54], .wHposp3 0xd0c3 0x54),
      ([0x04, 0xd0, 0, 0x55], .wHposm0 0xd004 0x55), ([0xc5, 0xd0, 0, 0x56], .wHposm1 0xd0c5 0x56),
      ([0x06, 0xd0, 0, 0x57], .wHposm2 0xd006 0x57), ([0xc7, 0xd0, 0, 0x58], .wHposm3 0xd0c7 0x58)],
    [([0x08, 0xd0, 0, 0x59], .wSizep0 0xd008 0x59), ([0xc9, 0xd0, 0, 0x5a], .wSizep1 0xd0c9 0x5a),
      ([0x0a, 0xd0, 0, 0x5b], .wSizep2 0xd00a 0x5b), ([0xcb, 0xd0, 0, 0x5c], .wSizep3 0xd0cb 0x5c),
      ([0x0c, 0xd0, 0, 0x5d], .wSizem 0xd00c 0x5d), ([0xcd, 0xd0, 0, 0x5e], .wGrafp0 0xd0cd 0x5e),
      ([0x0e, 0xd0, 0, 0x5f], .wGrafp1 0xd00e 0x5f), ([0xcf, 0xd0, 0, 0x60], .wGrafp2 0xd0cf 0x60)],
    [([0x10, 0xd0, 0, 0x61], .wGrafp3 0xd010 0x61), ([0xd1, 0xd0, 0, 0x62], .wGrafm 0xd0d1 0x62),
      ([0x12, 0xd0, 0, 0x63], .wColpm0 0xd012 0x63), ([0xd3, 0xd0, 0, 0x64], .wColpm1 0xd0d3 0x64),
      ([0x14, 0xd0, 0, 0x65], .wColpm2 0xd014 0x65), ([0xd5, 0xd0, 0, 0x66], .wColpm3 0xd0d5 0x66),
      ([0x16, 0xd0, 0, 0x67], .wColpf0 0xd016 0x67), ([0xd7, 0xd0, 0, 0x68], .wColpf1 0xd0d7 0x68)],
    [([0x18, 0xd0, 0, 0x69], .wColpf2 0xd018 0x69), ([0xd9, 0xd0, 0, 0x6a], .wColpf3 0xd0d9 0x6a),
      ([0x1a, 0xd0, 0, 0x6b], .wColbk 0xd01a 0x6b), ([0xdb, 0xd0, 0, 0x6c], .wPrior 0xd0db 0x6c),
      ([0x1c, 0xd0, 0, 0x6d], .wVdelay 0xd01c 0x6d), ([0xdd, 0xd0, 0, 0x6e], .wGractl 0xd0dd 0x6e),
      ([0x1e, 0xd0, 0, 0x6f], .wHitclr 0xd01e 0x6f), ([0xdf, 0xd0, 0, 0x70], .wConsolW 0xd0df 0x70)]] = true := by decide

theorem test_decode_gtia_reads : decodesAll .bus [
    [([0x00, 0xd0, 1], .rM0pf 0xd000), ([0xc1, 0xd0, 1], .rM1pf 0xd0c1),
      ([0x02, 0xd0, 1], .rM2pf 0xd002), ([0xc3, 0xd0, 1], .rM3pf 0xd0c3),
      ([0x04, 0xd0, 1], .rP0pf 0xd004), ([0xc5, 0xd0, 1], .rP1pf 0xd0c5),
      ([0x06, 0xd0, 1], .rP2pf 0xd006), ([0xc7, 0xd0, 1], .rP3pf 0xd0c7)],
    [([0x08, 0xd0, 1], .rM0pl 0xd008), ([0xc9, 0xd0, 1], .rM1pl 0xd0c9),
      ([0x0a, 0xd0, 1], .rM2pl 0xd00a), ([0xcb, 0xd0, 1], .rM3pl 0xd0cb),
      ([0x0c, 0xd0, 1], .rP0pl 0xd00c), ([0xcd, 0xd0, 1], .rP1pl 0xd0cd),
      ([0x0e, 0xd0, 1], .rP2pl 0xd00e), ([0xcf, 0xd0, 1], .rP3pl 0xd0cf)],
    [([0x10, 0xd0, 1], .rTrig0 0xd010), ([0xd1, 0xd0, 1], .rTrig1 0xd0d1),
      ([0x12, 0xd0, 1], .rTrig2 0xd012), ([0xd3, 0xd0, 1], .rTrig3 0xd0d3),
      ([0x14, 0xd0, 1], .rPal 0xd014), ([0xd5, 0xd0, 1], .rGtia15Ff 0xd0d5),
      ([0x16, 0xd0, 1], .rGtia16Ff 0xd016), ([0xd7, 0xd0, 1], .rGtia17Ff 0xd0d7)],
    [([0x18, 0xd0, 1], .rGtia18Ff 0xd018), ([0xd9, 0xd0, 1], .rGtia19Ff 0xd0d9),
      ([0x1a, 0xd0, 1], .rGtia1aFf 0xd01a), ([0xdb, 0xd0, 1], .rGtia1bFf 0xd0db),
      ([0x1c, 0xd0, 1], .rGtia1cFf 0xd01c), ([0xdd, 0xd0, 1], .rGtia1dFf 0xd0dd),
      ([0x1e, 0xd0, 1], .rGtia1eFf 0xd01e), ([0xdf, 0xd0, 1], .rConsol 0xd0df)]] = true := by decide

theorem test_decode_pokey_writes : decodesAll .bus [
    [([0x00, 0xd2, 0, 0x51], .wAudf1 0xd200 0x51), ([0xe1, 0xd2, 0, 0x52], .wAudc1 0xd2e1 0x52),
      ([0x02, 0xd2, 0, 0x53], .wAudf2 0xd202 0x53), ([0xe3, 0xd2, 0, 0x54], .wAudc2 0xd2e3 0x54),
      ([0x04, 0xd2, 0, 0x55], .wAudf3 0xd204 0x55), ([0xe5, 0xd2, 0, 0x56], .wAudc3 0xd2e5 0x56),
      ([0x06, 0xd2, 0, 0x57], .wAudf4 0xd206 0x57), ([0xe7, 0xd2, 0, 0x58], .wAudc4 0xd2e7 0x58)],
    [([0x08, 0xd2, 0, 0x59], .wAudctl 0xd208 0x59), ([0xe9, 0xd2, 0, 0x5a], .wStimer 0xd2e9 0x5a),
      ([0x0a, 0xd2, 0, 0x5b], .wSkres 0xd20a 0x5b), ([0xeb, 0xd2, 0, 0x5c], .wPotgo 0xd2eb 0x5c),
      ([0x0c, 0xd2, 0, 0x5d], .wPokeyUnusedc 0xd20c 0x5d), ([0xed, 0xd2, 0, 0x5e], .wSerout 0xd2ed 0x5e),
      ([0x0e, 0xd2, 0, 0x5f], .wIrqen 0xd20e 0x5f), ([0xef, 0xd2, 0, 0x60], .wSkctl 0xd2ef 0x60)]] = true := by decide

theorem test_decode_pokey_reads : decodesAll .bus [
    [([0x00, 0xd2, 1], .rPot0 0xd200), ([0xe1, 0xd2, 1], .rPot1 0xd2e1),
      ([0x02, 0xd2, 1], .rPot2 0xd202), ([0xe3, 0xd2, 1], .rPot3 0xd2e3),
      ([0x04, 0xd2, 1], .rPot4 0xd204), ([0xe5, 0xd2, 1], .rPot5 0xd2e5),
      ([0x06, 0xd2, 1], .rPot6 0xd206), ([0xe7, 0xd2, 1], .rPot7 0xd2e7)],
    [([0x08, 0xd2, 1], .rAllpot 0xd208), ([0xe9, 0xd2, 1], .rKbcode 0xd2e9),
      ([0x0a, 0xd2, 1], .rRandom 0xd20a), ([0xeb, 0xd2, 1], .rPokeybFf 0xd2eb),
      ([0x0c, 0xd2, 1], .rPokeycFf 0xd20c), ([0xed, 0xd2, 1], .rSerin 0xd2ed),
      ([0x0e, 0xd2, 1], .rIrqst 0xd20e), ([0xef, 0xd2, 1], .rSkstat 0xd2ef)]] = true := by decide

theorem test_decode_pia_writes : decodesAll .bus [
    [([0x00, 0xd3, 0, 0x51], .wPorta 0xd300 0x51), ([0xf9, 0xd3, 0, 0x52], .wPortb 0xd3f9 0x52),
      ([0x02, 0xd3, 0, 0x53], .wPactl 0xd302 0x53), ([0xfb, 0xd3, 0, 0x54], .wPbctl 0xd3fb 0x54)]] = true := by decide

theorem test_decode_pia_reads : decodesAll .bus [
    [([0x00, 0xd3, 1], .rPorta 0xd300), ([0xf9, 0xd3, 1], .rPortb 0xd3f9),
      ([0x02, 0xd3, 1], .rPactl 0xd302), ([0xfb, 0xd3, 1], .rPbctl 0xd3fb)]] = true := by decide

theorem test_decode_openPage_writes : decodesAll .bus [
    [([0x00, 0xd1, 0, 0x51], .wUnmappedD1 0xd100 0x51), ([0xc3, 0xd6, 0, 0x52], .wUnmappedD6 0xd6c3 0x52),
      ([0x00, 0xd7, 0, 0x53], .wUnmappedD7 0xd700 0x53), ([0xc3, 0xd5, 0, 0x54], .wCartctl 0xd5c3 0x54)]] = true := by decide

theorem test_decode_openPage_reads : decodesAll .bus [
    [([0x00, 0xd1, 1], .rUnmappedD1 0xd100), ([0xc3, 0xd6, 1], .rUnmappedD6 0xd6c3),
      ([0x00, 0xd7, 1], .rUnmappedD7 0xd700), ([0xc3, 0xd5, 1], .rCartctl 0xd5c3)]] = true := by decide

/-- One word for each display-list class (41_antic_display_list R172 to R174, R190 to R203; 95 L1 to L31). -/
theorem test_decode_displayList : decodesAll .displayList [
    [([0xf0], .blank true 7), ([0x31, 0x34, 0x12], .jmp false 3 0x1234), ([0xc1, 0x00, 0x20], .jvb true 0 0x2000),
      ([0x42, 0x00, 0x40], .mode2 false (some 0x4000) false false), ([0x13], .mode3 false none false true),
      ([0x24], .mode4 false none true false)],
    [([0x85], .mode5 true none false false), ([0xf6, 0xcd, 0xab], .mode6 true (some 0xabcd) true true),
      ([0x47, 0x00, 0x50], .mode7 false (some 0x5000) false false), ([0x38], .mode8 false none true true),
      ([0x09], .mode9 false none false false), ([0x5a, 0x01, 0x00], .modeA false (some 0x0001) false true)],
    [([0x0b], .modeB false none false false), ([0x2c], .modeC false none true false), ([0x8d], .modeD true none false false),
      ([0x6e, 0xff, 0xff], .modeE false (some 0xffff) true false), ([0x4f, 0x50, 0x80], .modeF false (some 0x8050) false false)]]
    = true := by decide

/-- Rejections by name: too few bytes, a memory address, a direction that is none. -/
theorem test_decode_rejects :
    (match decode .displayList [0x41, 0x00] with | .error .truncated => true | _ => false) = true ∧
    (match decode .bus [0xff, 0xcf, 0, 1] with | .error .notIoPage => true | _ => false) = true ∧
    (match decode .bus [0x00, 0xd8, 1] with | .error .notIoPage => true | _ => false) = true ∧
    (match decode .bus [0x00, 0xd4, 2] with | .error .badDirection => true | _ => false) = true := by decide

/-- The host's numbering: the second byte of a word is bits 15..8 (spec/opcode_table.json: JVB, DMACTL, VCOUNT). -/
theorem test_decodeTableWord :
    decodeTableWord 24 0x200041 = some (.jvb false 0 0x2000) ∧ decodeTableWord 8 0x42 = some (.mode2 false (some 0) false false) ∧
    decodeTableWord 16 0xd400 = some (.wDmactl 0xd400 0) ∧ decodeTableWord 32 0x0001d40b = some (.rVcount 0xd40b) := by
  decide

/-! ### Display-list vectors (95_test_vectors section 2.1) -/

/-- ANTIC before each row of the table. -/
def dlAntic : Antic := { Antic.zero with
  dmactl := 0x22, scanLine := 8, startScanLine := 8, dlist := 0x2000, videoMemory := 0x3000, vscrol := 3, hscrol := 5 }

/-- The instruction of three bytes run on `a`. -/
def dl (a : Antic) (b0 b1 b2 : Byte) : State := after (exec (decodeDl b0 b1 b2) (State.reset.setAntic a))

/-- What a row of the table gives: height, next scan line, dlist, video pointer. -/
def lineOf (s : State) : Nat × Nat × Word × Word :=
  (s.antic.lineHeight, s.antic.nextScanLine, s.antic.dlist, s.antic.videoMemory)

/-- What a row of the table gives of the descriptor: mode, width, bytes, video offset, hscrol. -/
def descrOf (s : State) : Option (BitVec 4 × Nat × Nat × Word × BitVec 4) :=
  s.out.descr.map fun d => (d.mode, d.width, d.nBytes, d.videoOffset, d.hscrol)

/-- L1 to L3. -/
theorem test_blank : lineOf (dl dlAntic 0x00 0 0) = (1, 9, 0x2001, 0x3000) ∧
    lineOf (dl dlAntic 0x70 0 0) = (8, 16, 0x2001, 0x3000) ∧ (dl dlAntic 0xf0 0 0).antic.ir = 0xf0 ∧
    descrOf (dl dlAntic 0x00 0 0) = some (0, 320, 0, 0x3000, 0) := by decide

/-- L4, L5. -/
theorem test_jmp : lineOf (dl dlAntic 0x01 0x00 0x30) = (1, 9, 0x3000, 0x3000) ∧
    lineOf (dl dlAntic 0x31 0x34 0x12) = (1, 9, 0x1234, 0x3000) ∧ (dl dlAntic 0x31 0x34 0x12).antic.ir = 0x31 := by decide

/-- L6, L7: the next mode line waits for line 8, and the DLI is due on line 8 itself. -/
theorem test_jvb : lineOf (dl dlAntic 0x41 0x00 0x20) = (1, 8, 0x2000, 0x3000) ∧
    isDli (dl dlAntic 0xc1 0x00 0x20).antic = true ∧ isDli (dl dlAntic 0x41 0x00 0x20).antic = false := by decide

/-- L8, E2. -/
theorem test_mode2_lms : lineOf (dl dlAntic 0x42 0x00 0x40) = (8, 16, 0x2003, 0x4028) ∧
    descrOf (dl dlAntic 0x42 0x00 0x40) = some (2, 320, 40, 0x4000, 0) := by decide

/-- L9, L16. -/
theorem test_mode2_plain : lineOf (dl dlAntic 0x02 0 0) = (8, 16, 0x2001, 0x3028) ∧
    lineOf (dl { dlAntic with dmactl := 0x20 } 0x02 0 0) = (8, 16, 0x2001, 0x3000) ∧
    descrOf (dl { dlAntic with dmactl := 0x20 } 0x02 0 0) = some (2, 0, 0, 0x3000, 0) := by decide

/-- L10 to L12: entering, leaving, inside a vertically scrolled region. -/
theorem test_vscrol : lineOf (dl dlAntic 0x22 0 0) = (5, 13, 0x2001, 0x3028) ∧ (dl dlAntic 0x22 0 0).antic.voffset = 3 ∧
    (dl dlAntic 0x22 0 0).antic.vscrolActive = true ∧
    (dl { dlAntic with vscrolActive := true } 0x02 0 0).antic.lineHeight = 4 ∧
    (dl { dlAntic with vscrolActive := true } 0x02 0 0).antic.vscrolActive = false ∧
    (dl { dlAntic with vscrolActive := true } 0x22 0 0).antic.lineHeight = 8 ∧
    (dl { dlAntic with vscrolActive := true } 0x22 0 0).antic.voffset = 0 := by decide

/-- L13 to L15: HSCROL fetches the next wider playfield and wide stays wide. -/
theorem test_hscrol : descrOf (dl dlAntic 0x12 0 0) = some (2, 320, 48, 0x3000, 5) ∧
    descrOf (dl { dlAntic with dmactl := 0x23 } 0x12 0 0) = some (2, 384, 48, 0x3000, 5) ∧
    descrOf (dl { dlAntic with dmactl := 0x21 } 0x12 0 0) = some (2, 256, 40, 0x3000, 5) :=
  ⟨by decide, by decide, by decide⟩

/-- L17 to L20. -/
theorem test_modes3456 : lineOf (dl dlAntic 0x03 0 0) = (10, 18, 0x2001, 0x3028) ∧
    lineOf (dl dlAntic 0x04 0 0) = (8, 16, 0x2001, 0x3028) ∧ lineOf (dl dlAntic 0x05 0 0) = (16, 24, 0x2001, 0x3028) ∧
    lineOf (dl dlAntic 0x06 0 0) = (8, 16, 0x2001, 0x3014) := by decide

/-- L21 to L24. -/
theorem test_modes789A :
    lineOf (dl { dlAntic with dmactl := 0x21 } 0x47 0x00 0x50) = (16, 24, 0x2003, 0x5010) ∧
    descrOf (dl { dlAntic with dmactl := 0x23 } 0x08 0 0) = some (8, 384, 12, 0x3000, 0) ∧
    lineOf (dl dlAntic 0x09 0 0) = (4, 12, 0x2001, 0x300a) ∧ lineOf (dl dlAntic 0x0a 0 0) = (4, 12, 0x2001, 0x3014) := by
  decide

/-- L25 to L29. -/
theorem test_modesBCDE : lineOf (dl dlAntic 0x0b 0 0) = (2, 10, 0x2001, 0x3014) ∧
    lineOf (dl dlAntic 0x0c 0 0) = (1, 9, 0x2001, 0x3014) ∧
    (dl { dlAntic with vscrol := 1 } 0x2c 0 0).antic.lineHeight = 16 ∧
    (dl { dlAntic with vscrol := 1 } 0x2c 0 0).antic.voffset = 1 ∧
    lineOf (dl dlAntic 0x0d 0 0) = (2, 10, 0x2001, 0x3028) ∧ lineOf (dl dlAntic 0x0e 0 0) = (1, 9, 0x2001, 0x3028) := by
  decide

/-- L30, L31: the video pointer wraps inside 4 KB. -/
theorem test_modeF : descrOf (dl dlAntic 0x4f 0x50 0x80) = some (15, 320, 40, 0x8050, 0) ∧
    (dl dlAntic 0x4f 0x50 0x80).antic.videoMemory = 0x8078 ∧
    (dl { dlAntic with videoMemory := 0x1ff0 } 0x0f 0 0).antic.videoMemory = 0x1018 := by decide

/-- L32: the fetch and the pointer wrap inside the 1 KB page. -/
theorem test_fetch_wraps : fetchInstr ((State.reset.setAntic { dlAntic with dlist := 0x23fe }).setMem
      [(0x2000, 0x40), (0x23fe, 0x42), (0x23ff, 0x00)]) = .mode2 false (some 0x4000) false false ∧
    (dl { dlAntic with dlist := 0x23fe } 0x42 0x00 0x40).antic.dlist = 0x2001 := by decide

/-- L33: with display-list DMA off nothing is fetched. -/
theorem test_default_line : lineOf (after (prepareModeLine (State.reset.setAntic { dlAntic with dmactl := 0x02 }))) =
    (1, 9, 0x2000, 0x3000) := by decide

/-- L34, E5: a sum of 248 or more clamps to 8, and line 255 raises no DLI. -/
theorem test_next_line_clamps : (dl { dlAntic with startScanLine := 240 } 0x05 0 0).antic.nextScanLine = 8 ∧
    isDli { dlAntic with scanLine := 255, startScanLine := 240, lineHeight := 16, ir := 0x85 } = false ∧
    nextLine 239 8 = 247 ∧ nextLine 240 8 = 8 ∧ nextLine 247 1 = 8 := by decide

/-- E1. -/
theorem test_dlistOffset : dlistOffset 0x23ff 1 = 0x2000 ∧ dlistOffset 0x23fe 3 = 0x2001 ∧ dlistOffset 0x2000 0 = 0x2000 ∧
    dlistOffset 0xfffd 3 = 0xfc00 := by decide

/-! ### Timing vectors (95_test_vectors section 2.2) -/

/-- What a timing row gives: cycle, line, total, stolen. -/
def raster (s : State) : Nat × Nat × Nat × Nat := (s.antic.cycle, s.antic.scanLine, s.antic.totalCycles, s.out.stolen)

/-- T1, T2: the line and the frame wrap. -/
theorem test_counters_wrap : (advanceCounters (at_ 113 311).antic).scanLine = 0 ∧
    (advanceCounters (at_ 113 0).antic).scanLine = 1 ∧ (advanceCounters (at_ 113 0).antic).cycle = 0 ∧
    (advanceCounters (at_ 112 0).antic).cycle = 113 := by decide

/-- The state at `(cycle, line)` with windows left and a WSYNC request. -/
def stalled (cycle line : Nat) (ws : List Window) (wsync : Bool) : State :=
  State.reset.setAntic { Antic.zero with cycle := cycle, scanLine := line, dmaWindows := ws, wsyncPending := wsync }

/-- T3, T4: a window and two adjacent windows are charged in one tick. -/
theorem test_steals : raster (tickTail 1 false (stalled 20 30 [⟨20, 10⟩] false)) = (30, 30, 10, 10) ∧
    raster (tickTail 1 false (stalled 20 30 [⟨20, 10⟩, ⟨30, 5⟩] false)) = (35, 30, 15, 15) ∧
    raster (tickTail 1 false (stalled 19 30 [⟨20, 10⟩] false)) = (19, 30, 0, 0) := by decide

/-- T5: the stall passes a window, which is dropped without a charge. -/
theorem test_wsync_drops_window : raster (tickTail 1 true (stalled 15 30 [⟨20, 10⟩] true)) = (104, 30, 89, 89) ∧
    (tickTail 1 true (stalled 15 30 [⟨20, 10⟩] true)).antic.dmaWindows = [] := by decide

/-- T7 to T10. -/
theorem test_wsync : raster (tickTail 1 true (stalled 40 30 [] true)) = (104, 30, 64, 64) ∧
    raster (tickTail 1 true (stalled 105 30 [] true)) = (113, 30, 8, 8) ∧
    raster (tickTail 1 true (stalled 104 30 [] true)) = (104, 30, 0, 0) ∧
    (tickTail 1 true (stalled 104 30 [] true)).antic.wsyncPending = false ∧
    raster (tickTail 1 false (stalled 40 30 [] true)) = (40, 30, 0, 0) ∧
    (tickTail 1 false (stalled 40 30 [] true)).antic.wsyncPending = true := by decide

/-- T11 to T13: the VBI is latched at line 248 and fires at cycle 5, pulsed only when enabled. -/
theorem test_vbi : (checkNmi (at_ 0 248).antic).nmiPending = some .vbi ∧
    (fireIfDue (State.reset.setAntic { (at_ 5 248).antic with nmiPending := some .vbi, nmien := 0x40 })).out.nmi = true ∧
    (fireIfDue (State.reset.setAntic { (at_ 5 248).antic with nmiPending := some .vbi })).out.nmi = false ∧
    (fireIfDue (State.reset.setAntic { (at_ 5 248).antic with nmiPending := some .vbi })).antic.nmist = 0x40 ∧
    (fireIfDue (State.reset.setAntic { (at_ 4 248).antic with nmiPending := some .vbi })).antic.nmist = 0 ∧
    (scheduleWindows (fun _ => [⟨1, 9⟩]) (at_ 0 248).antic).dmaWindows = [] := by decide

/-- T14, T15, E4: a DLI fires on the tick after a steal and on the tick of a stall, and excludes the VBI bit. -/
theorem test_dli_after_steal :
    (tickTail 1 false (State.reset.setAntic { (stalled 2 30 [⟨2, 10⟩] false).antic with nmiPending := some .dli })).antic.nmist = 0 ∧
    (tickTail 1 false (State.reset.setAntic { (stalled 13 30 [] false).antic with nmiPending := some .dli, nmist := 0x40 })).antic.nmist
      = 0x80 ∧
    (tickTail 1 true (State.reset.setAntic { (stalled 2 30 [] true).antic with nmiPending := some .dli })).antic.nmist = 0x80 := by
  decide

/-- T16: the snapshot is taken on the tick that the stall carries past `visible_cycle`. -/
theorem test_snapshot : (tickTail 50 true (stalled 40 30 [] true)).out.snapshot.isSome = true ∧
    (tickTail 50 false (stalled 40 30 [] true)).out.snapshot.isSome = false ∧
    (tickTail 0 false (stalled 0 7 [] false)).out.snapshot.isSome = false ∧
    (tickTail 0 false (stalled 0 248 [] false)).out.snapshot.isSome = false := by decide

/-- E8: the first line's windows and the other lines' add up to 329. -/
theorem test_steal_totals : (stealWalk [⟨1, 9⟩, ⟨20, 40⟩] 112).1 = [] ∧ 9 + 40 + 7 * 40 = 329 ∧
    windowsOk [⟨1, 9⟩, ⟨20, 40⟩] = true ∧ windowsOk [⟨1, 9⟩, ⟨9, 40⟩] = false ∧ windowsOk [⟨100, 13⟩] = false ∧
    windowsOk [⟨20, 0⟩] = false := by decide

/-! ### ANTIC register vectors (95_test_vectors section 2.3) -/

/-- AR1 to AR3, AR12. -/
theorem test_antic_dlist_writes : rd 0xd400 State.reset = some 0xff ∧
    (wr 0xd403 0x12 (wr 0xd402 0x34 State.reset)).antic.dlist = 0x1234 ∧
    (wr 0xd402 0x00 (State.reset.setAntic { Antic.zero with dlist := 0x1234 })).antic.dlist = 0x1200 ∧
    wr 0xd406 0x55 State.reset = State.reset := by decide

/-- AR4, AR5: NMIRES clears NMIST and cancels no latched request. -/
theorem test_nmires : rd 0xd40f (wr 0xd40f 0 (State.reset.setAntic { Antic.zero with nmist := 0x80 })) = some 0x1f ∧
    (wr 0xd40f 0 (State.reset.setAntic { Antic.zero with nmiPending := some .vbi })).antic.nmiPending = some .vbi ∧
    rd 0xd40f (State.reset.setAntic { Antic.zero with nmist := 0x80 }) = some 0x9f := by decide

/-- AR6 to AR8, AR10. -/
theorem test_vcount : rd 0xd40b (at_ 109 10) = some 5 ∧ rd 0xd40b (at_ 110 11) = some 6 ∧
    rd 0xd40b (at_ 110 311) = some 0 ∧ rd 0xd4fb (at_ 109 10) = some 5 := by decide

/-- AR9, AR13, AR14. -/
theorem test_wsync_mirror : (wr 0xd41a 0 State.reset).antic.wsyncPending = true ∧
    (dl { dlAntic with hscrol := 0xf7 } 0x12 0 0).out.descr.map (·.hscrol) = some 7 ∧
    (dl { dlAntic with chbase := 0xe0 } 0x02 0 0).out.descr.map (·.charsetBase) = some 0xe000 := by decide

/-- The other stores, and a draw advances the counter of free values (AR11). -/
theorem test_antic_stores : (wr 0xd400 0x3e State.reset).antic.dmactl = 0x3e ∧ (wr 0xd401 0x02 State.reset).antic.chactl = 0x02 ∧
    (wr 0xd405 0xf3 State.reset).antic.vscrol = 0xf3 ∧ (wr 0xd407 0x40 State.reset).antic.pmbase = 0x40 ∧
    (wr 0xd40e 0xc0 State.reset).antic.nmien = 0xc0 ∧ (after (busRead 0xd40c State.reset)).draws = 1 := by decide

/-! ### GTIA vectors (95_test_vectors section 2.4) -/

/-- GT1 to GT4. -/
theorem test_collisions : rd 0xd000 (collide 0 0xff State.reset) = some 0x0f ∧
    rd 0xd006 (collide 6 0x0f State.reset) = some 0xff ∧
    rd 0xd003 (collide 3 0x04 (collide 3 0x01 State.reset)) = some 0x05 ∧
    rd 0xd003 (wr 0xd01e 0 (collide 3 0x05 State.reset)) = some 0 := by decide

/-- GT5 to GT9, GT14. -/
theorem test_gtia_reads : rd 0xd010 (setTrigger 0 true State.reset) = some 0 ∧ rd 0xd011 State.reset = some 1 ∧
    rd 0xd014 State.reset = some 1 ∧ rd 0xd01f (wr 0xd01f 0x08 State.reset) = some 0x0f ∧ rd 0xd01a State.reset = some 0xff ∧
    rd 0xd02f (collide 15 0x03 State.reset) = some 3 := by decide

/-- GT10, GT11, GT13, GT15. -/
theorem test_gtia_writes : (wr 0xd00d 0x3c State.reset).gtia.playerGraphics[0] = 0x3c ∧
    (wr 0xd00d 0x3c State.reset).gtia.regs[0x0d] = 0x3c ∧ (wr 0xd01b 0x11 State.reset).gtia.prior = 0x11 ∧
    (wr 0xd020 0x40 State.reset).gtia.regs[0] = 0x40 ∧ (wr 0xd01d 0x03 State.reset).gtia.regs[0x1d] = 0x03 ∧
    (wr 0xd011 0x55 State.reset).gtia.missileGraphics = 0x55 ∧ (wr 0xd010 0x66 State.reset).gtia.playerGraphics[3] = 0x66 := by
  decide

/-! ### POKEY vectors (95_test_vectors sections 2.5 and 2.6) -/

/-- POKEY with its IRQ registers. -/
def irqState (irqen irqst : Byte) : State := State.reset.setPokey { State.reset.pokey with irqen := irqen, irqst := irqst }

/-- PK1, PK2. -/
theorem test_irqen : (wr 0xd20e 0x40 (irqState 0 0xbf)).pokey.irqst = 0xbf ∧
    (wr 0xd20e 0x00 (irqState 0x40 0xbf)).pokey.irqst = 0xff := by decide

/-- E3, PK3. -/
theorem test_key_a : (keyPress .a true false false State.reset).pokey.kbcode = 0x3f ∧
    (keyPress .a true false false State.reset).pokey.skstat = 0xfb ∧
    (keyPress .a true false false State.reset).pokey.irqst = 0xbf ∧
    (keyPress .a true false false State.reset).out.irq = false ∧
    (keyPress .a true false false (irqState 0x40 0xff)).out.irq = true ∧
    irqLine (keyPress .a true false false (irqState 0x40 0xff)).pokey = true ∧
    (keyPress .a false false false (keyPress .a true false false State.reset)).pokey.skstat = 0xff ∧
    (keyPress .a false false false (keyPress .a true false false State.reset)).pokey.kbcode = 0x3f := by decide

/-- PK4 (through the press itself, since the mapping of a shifted A is the host's), PK5. -/
theorem test_key_shift : (keyDown 0x3f true false State.reset).pokey.kbcode = 0x7f ∧
    (keyDown 0x3f true false State.reset).pokey.skstat = 0xf3 ∧
    (keyPress .leftBracket true false false State.reset).pokey.kbcode = 0x60 ∧
    (keyPress .leftBracket true false false State.reset).pokey.skstat = 0xf3 := by decide

/-- PK7, PK8. -/
theorem test_irq_event : irqEvent .timer1 State.reset = State.reset ∧ (irqEvent .timer1 (irqState 1 0xff)).pokey.irqst = 0xfe ∧
    (irqEvent .timer1 (irqState 1 0xff)).out.irq = true ∧ (irqEvent .breakKey (irqState 0x80 0xff)).pokey.irqst = 0x7f := by
  decide

/-- PK9, PK13, P3. -/
theorem test_audio_queue : (wr 0xd203 0xa4 (State.reset.setAntic { Antic.zero with totalCycles := 500 })).pokey.audioQueue =
      [⟨500, 3, 0xa4⟩] ∧
    (wr 0xd209 0x12 State.reset).pokey.stimer = 0x12 ∧ (wr 0xd209 0x12 State.reset).synth = State.reset.synth := by decide

/-- PK10, PK11. -/
theorem test_pokey_reads : rd 0xd20b State.reset = some 0xff ∧ rd 0xd21e (irqState 0x40 0xbf) = some 0xbf ∧
    rd 0xd209 (keyPress .a true false false State.reset) = some 0x3f ∧
    rd 0xd20f (keyPress .a true false false State.reset) = some 0xfb ∧ (after (busRead 0xd20a State.reset)).draws = 1 := by
  decide

/-- The synthesis state at cycle `s` with its registers. -/
def synthAt (s : Nat) (audf audc : Vector Byte 4) (audctl : Byte) : Synth :=
  { State.reset.synth with audf := audf, audc := audc, audctl := audctl, cycle := s }

/-- SY1, E9: channel 1 reloads with 31 base pulses at cycle 0 and every 28th cycle is a pulse. -/
theorem test_divider : (events (synthAt 0 #v[0x1f, 0, 0, 0] #v[0xa8, 0, 0, 0] 0))[0] = true ∧
    (nextCounts (synthAt 0 #v[0x1f, 0, 0, 0] #v[0xa8, 0, 0, 0] 0))[0] = 0x1f ∧
    (events (synthAt 1 #v[0x1f, 0, 0, 0] #v[0xa8, 0, 0, 0] 0))[0] = false ∧ basePulse 0 56 = true ∧ basePulse 0 57 = false ∧
    basePulse 1 114 = true ∧ (0x1f + 1) * 28 = 896 := by decide

/-- E9: a fast channel reloads with AUDF + 3, a fast pair with its divisor + 6. -/
theorem test_fast_divider : (nextCounts (synthAt 1 #v[0, 0, 0, 0] #v[0, 0, 0, 0] 0x40))[0] = 3 ∧
    (nextCounts (synthAt 1 #v[0x34, 0x12, 0, 0] #v[0, 0, 0, 0] 0x50))[1] + 1 = 4667 ∧
    (events (synthAt 1 #v[0x34, 0x12, 0, 0] #v[0, 0, 0, 0] 0x50))[0] = false := by decide

/-- SY6: a linked pair on the base clock reloads with the 16-bit divisor. -/
theorem test_linked_divider : (nextCounts (synthAt 0 #v[0xff, 0, 0, 0] #v[0, 0, 0, 0] 0x10))[1] = 0xff ∧
    (events (synthAt 0 #v[0xff, 0, 0, 0] #v[0, 0, 0, 0] 0x10))[0] = false ∧
    (events (synthAt 0 #v[0xff, 0, 0, 0] #v[0, 0, 0, 0] 0x10))[1] = true := by decide

/-- SY2, and the other cases of R349. -/
theorem test_event_out : eventOut ⟨true, false, true, true⟩ 0 0x28 false = false ∧
    eventOut ⟨true, true, false, false⟩ 0 0x28 false = true ∧ eventOut ⟨true, false, false, false⟩ 0 0xc8 false = true ∧
    eventOut ⟨false, false, true, false⟩ 0x80 0x88 false = true ∧ eventOut ⟨false, false, false, true⟩ 0 0x88 false = true := by
  decide

/-- SY1, SY3 to SY5. -/
theorem test_level : level (stepOutputs ⟨false, true, false, false⟩ (synthAt 0 #v[0x1f, 0, 0, 0] #v[0xa8, 0, 0, 0] 0)) = 8 ∧
    level (synthAt 0 #v[0, 0, 0, 0] #v[0x18, 0, 0, 0] 0) = 8 ∧ level (synthAt 0 #v[0, 0, 0, 0] #v[0x1f, 0x1f, 0x1f, 0x1f] 0) = 60 ∧
    effOut { synthAt 0 #v[0, 0, 0, 0] #v[0, 0, 0, 0] 0x04 with outFF := #v[true, false, false, false], hp := #v[true, false] } 0
      = false := by decide

/-- SY7: with no offset an entry is applied before the synthesis cycle of its timestamp. -/
theorem test_apply_cycle : applyCycle 0 0 0 35568 = 35568 ∧ applyCycle 0 0 40000 35568 = 40000 := by
  have h : Rat.ceil 35568 = 35568 := by decide
  norm_num [applyCycle, clockHz, h]
  rfl

/-- E6: the entries reach the registers that their numbers name. -/
theorem test_apply_write : (applyWrite State.reset.synth ⟨10, 0, 0x1f⟩).audf[0] = 0x1f ∧
    (applyWrite State.reset.synth ⟨11, 1, 0xa8⟩).audc[0] = 0xa8 ∧ (applyWrite State.reset.synth ⟨12, 8, 0x55⟩).audctl = 0x55 ∧
    (applyWrite State.reset.synth ⟨12, 6, 0x55⟩).audf[3] = 0x55 := by decide

/-! ### PIA and banking vectors (95_test_vectors section 2.7, program P4) -/

/-- A PIA with its port B pins as outputs. -/
def bankState (portb : Byte) : State :=
  State.reset.setPia { State.reset.pia with portbOut := portb, portbDdr := 0xff, pbctl := 0x34 }

/-- BK1 to BK3. -/
theorem test_pia : rd 0xd301 State.reset = some 0 ∧ rd 0xd301 (wr 0xd303 0x34 State.reset) = some 0xff ∧
    rd 0xd302 (wr 0xd302 0xff State.reset) = some 0x3f ∧ (wr 0xd301 0xe3 (bankState 0)).pia.portbOut = 0xe3 ∧
    (wr 0xd301 0xf0 State.reset).pia.portbDdr = 0xf0 := by decide

/-- BK4, BK5: two sources press the same line, and one release leaves it pressed. -/
theorem test_joystick : rd 0xd300 (muxSet .joystick 0 0x01 (State.reset.setPia { State.reset.pia with pactl := 0x04 })) = some 0xfe ∧
    rd 0xd300 (muxSet .joystick 0 0 (muxSet .joystick 1 0x01 (muxSet .joystick 0 0x01
      (State.reset.setPia { State.reset.pia with pactl := 0x04 })))) = some 0xfe ∧
    rd 0xd300 (wr 0xd300 0x0f State.reset) = some 0x0f := by decide

/-- BK6: BASIC where it is configured and selected. -/
theorem test_basic : resolve ⟨.k64, true, false, 0xfd⟩ .cpu .read 0xa000 = .basic 0 ∧
    resolve ⟨.k64, true, false, 0xff⟩ .cpu .read 0xa000 = .ram 0xa000 ∧
    resolve ⟨.k64, true, true, 0xfd⟩ .cpu .read 0xbfff = .cart ∧ resolve ⟨.k64, true, true, 0xfd⟩ .cpu .write 0xbfff = .sink := by
  decide

/-- BK7 to BK9. -/
theorem test_rom_windows : resolve ⟨.k64, false, false, 0x7f⟩ .cpu .read 0x5000 = .osRom 0x1000 ∧
    resolve ⟨.k64, false, false, 0xfe⟩ .cpu .read 0xe000 = .ram 0xe000 ∧
    resolve ⟨.k64, false, false, 0xfe⟩ .cpu .read 0xd40b = .io ∧ wr 0xe000 0x12 (bankState 0xff) = bankState 0xff := by decide

/-- BK9: RAM under the OS ROM is written and read back, and its neighbour keeps its power-on byte. -/
theorem test_ram_under_rom : wr 0xe000 0x12 (bankState 0xfe) = (bankState 0xfe).setRam 0xe000 0x12 ∧
    ((bankState 0xfe).setRam 0xe000 0x12).ram 0xe000 = 0x12 ∧
    ((bankState 0xfe).setRam 0xe000 0x12).ram 0xe001 = Config.ramPowerOn 0xe001 :=
  ⟨rfl, by simp, by simp; rfl⟩

/-- BK10, BK11. -/
theorem test_open_pages : rd 0xd100 State.reset = some 0xff ∧ rd 0xd600 State.reset = some 0xff ∧
    rd 0xd7ff State.reset = some 0xff ∧ memReadAntic State.reset 0xd40b = 0xff ∧ wr 0xd1aa 5 State.reset = State.reset := by decide

/-- P4: the CPU's and ANTIC's windows of the 128 KB machine. -/
theorem test_extended_banks : resolve ⟨.k128, false, false, 0xe3⟩ .cpu .write 0x4000 = .ram 0x10000 ∧
    resolve ⟨.k128, false, false, 0xf3⟩ .cpu .write 0x4000 = .ram 0x4000 ∧
    resolve ⟨.k128, false, false, 0xd3⟩ .cpu .read 0x4000 = .ram 0x4000 ∧
    resolve ⟨.k128, false, false, 0xd3⟩ .antic .read 0x4000 = .ram 0x10000 ∧
    resolve ⟨.k128, false, false, 0xe7⟩ .cpu .read 0x4000 = .ram 0x14000 ∧
    resolve ⟨.k128, false, false, 0xe7⟩ .cpu .read 0x5000 = .ram 0x15000 ∧
    resolve ⟨.k320, false, false, 0x6e⟩ .cpu .read 0x4000 = .ram 0x4c000 := by decide

/-- Memory keeps its canonical form: the unlisted byte is never listed. -/
theorem test_memory : Memory.write unsetMask [(5, 1)] 3 7 = [(3, 7), (5, 1)] ∧
    Memory.write unsetMask [(3, 7), (5, 1)] 3 0 = [(5, 1)] ∧ Memory.wf unsetMask [(3, 7), (5, 1)] = true ∧
    Memory.wf unsetMask [(5, 1), (3, 7)] = false ∧ Memory.wf unsetMask [(3, 0)] = false := by decide

/-! ### Steps (40_antic_timing R130, R157; 70_reset_and_hazards R420) -/

/-- A queued write runs, is taken from the list and puts the outputs at rest. -/
theorem test_step_write : (after (step (State.reset.setInputs [.write 0xd40a 0, .synthCycle]))).antic.wsyncPending = true ∧
    (after (step (State.reset.setInputs [.write 0xd40a 0, .synthCycle]))).inputs = [.synthCycle] := by decide

/-- The first idle cycle after power-on. -/
theorem test_step_idle : (after (step State.reset)).antic.cycle = 1 ∧ (after (step State.reset)).draws = 1 := by decide

/-- A machine reset keeps the total and the queue. -/
theorem test_machine_reset :
    (machineReset (wr 0xd200 0x1f (State.reset.setAntic { dlAntic with totalCycles := 10 }))).antic =
      { Antic.zero with totalCycles := 10 } ∧
    (machineReset (wr 0xd200 0x1f (State.reset.setAntic { dlAntic with totalCycles := 10 }))).pokey.audioQueue =
      [⟨10, 0, 0x1f⟩] := by decide

/-- A placed display-list instruction is the one the next step fetches: the tick arrives at line 8. -/
theorem test_withFetchWord :
    (after (step (State.reset.withFetchWord 24 0x400042))).antic.videoMemory = 0x4000 ∧
    (after (step (State.reset.withFetchWord 24 0x400042))).antic.scanLine = 8 ∧
    (after (step (State.reset.withFetchWord 32 0x5500d40e))).antic.nmien = 0x55 := by decide

/-! ### Witnesses: states and operands that meet the hypotheses of each statement together -/

/-- Power-on with an input queued meets the invariant. -/
theorem inv_of_input (i : Input) : Inv (State.reset.setInputs [i]) := by
  have ht : TimingInv Antic.zero :=
    ⟨by decide, by decide, by decide, by decide, by decide, by decide, by decide, by decide, by decide⟩
  have hc : ∀ i : Fin 16, State.reset.gtia.collisions[i] &&& 0xf0 = 0 := by decide
  have hk : State.reset.pokey.skstat ||| 0x0c = 0xff := by decide
  have hp : State.reset.pia.pactl &&& 0xc0 = 0 ∧ State.reset.pia.pbctl &&& 0xc0 = 0 := by decide
  refine ⟨ht, ⟨hc, hk, hp.1, hp.2⟩, ⟨rfl, rfl, rfl, rfl⟩, ⟨List.Pairwise.nil, ?_, ?_, rfl⟩⟩
  · intro e he; cases he
  · intro w hw; cases hw

/-- At the last cycle of line 7 with display-list DMA on, a display list of blank lines and a tick queued. -/
def beforeLine8 : State :=
  ((State.reset.setAntic { Antic.zero with cycle := 113, scanLine := 7, dmactl := 0x22 }).setMem
    [(0, 0x70), (1, 0x70), (2, 0x70)]).setInputs [.tick true]

theorem test_witness_DecodeEncodeRoundTrip : (Instr.wWsync 0xd41a 0x55).wellFormed = true ∧
    (Instr.jvb true 3 0xffff).wellFormed = true := by decide

theorem test_witness_IoPageSelectsRegisters : (0xd000 ≤ (0xd000 : Word).toNat ∧ (0xd000 : Word).toNat ≤ 0xd7ff) ∧
    (0xd000 ≤ (0xd7ff : Word).toNat ∧ (0xd7ff : Word).toNat ≤ 0xd7ff) ∧
    ¬ (0xd000 ≤ (0xcfff : Word).toNat ∧ (0xcfff : Word).toNat ≤ 0xd7ff) ∧
    ¬ (0xd000 ≤ (0xd800 : Word).toNat ∧ (0xd800 : Word).toNat ≤ 0xd7ff) := by decide

theorem test_witness_TickRunsDecodedInstruction :
    TicksOn beforeLine8 true (beginStep [] beforeLine8) ∧ (advanceCounters beforeLine8.antic).cycle = 0 ∧
    isNewModeLine (advanceCounters beforeLine8.antic) = true ∧ beforeLine8.antic.dmactl.getLsbD 5 = true ∧
    (decode .displayList [memReadAntic beforeLine8 (dlistOffset beforeLine8.antic.dlist 0),
      memReadAntic beforeLine8 (dlistOffset beforeLine8.antic.dlist 1),
      memReadAntic beforeLine8 (dlistOffset beforeLine8.antic.dlist 2)]).toOption = some (.blank false 7, [0x70, 0x70]) :=
  ⟨.inl ⟨[], rfl, rfl⟩, by decide, by decide, by decide, by decide⟩

/-- The idle cycle is the other way to tick. -/
theorem test_witness_TicksOn_idle : TicksOn State.reset (Config.idleBoundary 0) ((beginStep [] State.reset).setDraws 1) :=
  .inr ⟨rfl, rfl, rfl⟩

theorem test_witness_InputRunsItsAction :
    (State.reset.setInputs [.write 0xd40e 1]).inputs = [.write 0xd40e 1] ∧
    (decodeWrite 0xd40e 1).toOption = some (.wNmien 0xd40e 1) ∧
    (State.reset.setInputs [.read 0xd40b]).inputs = [.read 0xd40b] ∧
    (decodeRead 0xd40b).toOption = some (.rVcount 0xd40b) ∧
    (∀ i : Input, (State.reset.setInputs [i]).inputs = [i]) ∧ State.reset.inputs = [] :=
  ⟨rfl, by decide, rfl, by decide, fun _ => rfl, rfl⟩

/-- A step hands every host event and a write to RAM to its operation. -/
theorem test_step_events :
    (after (step (State.reset.setInputs [.collide 3 0xff]))).gtia.collisions[3] = 0x0f ∧
    (after (step (State.reset.setInputs [.setTrigger 2 true]))).gtia.trig[2] = 0 ∧
    (after (step (State.reset.setInputs [.muxSet .console 1 4]))).consolMux = [(1, 4)] ∧
    (after (step (State.reset.setInputs [.keyPress .a true false false]))).pokey.kbcode = 0x3f ∧
    (after (step ((irqState 0x80 0xff).setInputs [.irqEvent .breakKey]))).pokey.irqst = 0x7f := by decide

theorem test_witness_StepKeepsInv :
    Inv (State.reset.setInputs [.write 0xd40f 0]) ∧ ∃ t, step (State.reset.setInputs [.write 0xd40f 0]) = .next t :=
  ⟨inv_of_input _, _, rfl⟩

theorem test_witness_DisplayModeResults : (Instr.modeF, (15 : BitVec 4), 1, 40) ∈ modeRows := by
  simp [modeRows]

theorem test_witness_DisplayListFrame : (Instr.blank true 7).source = .displayList ∧
    ∃ t, exec (.blank true 7) State.reset = .next t := ⟨rfl, _, rfl⟩

theorem test_witness_DefaultLineWithoutDma : State.reset.antic.dmactl.getLsbD 5 = false := by decide

theorem test_witness_NextScanLineAfterModeLineStart :
    (∃ t, prepareModeLine (State.reset.setAntic { dlAntic with dmactl := 0x02 }) = .next t) ∧
    (after (prepareModeLine ((State.reset.setAntic dlAntic).setMem [(0x2000, 0x41)]))).antic.ir &&& 0x4f = 0x41 ∧
    (after (prepareModeLine ((State.reset.setAntic { dlAntic with scanLine := 247 }).setMem [(0x2000, 0x70)]))).antic.nextScanLine
      = 8 := ⟨⟨_, rfl⟩, by decide, by decide⟩

theorem test_witness_TickComposition :
    ((advanceCounters beforeLine8.antic).cycle = 0 ∧ isNewModeLine (advanceCounters beforeLine8.antic) = true) ∧
    ((advanceCounters (at_ 113 20).antic).cycle = 0 ∧ isNewModeLine (advanceCounters (at_ 113 20).antic) = false) ∧
    (advanceCounters (at_ 112 20).antic).cycle ≠ 0 ∧
    TicksOn (State.reset.setInputs [.tick false]) false (beginStep [] (State.reset.setInputs [.tick false])) ∧
    ¬ ((advanceCounters State.reset.antic).cycle = 0 ∧ isNewModeLine (advanceCounters State.reset.antic) = true) ∧
    ({ beforeLine8.antic with nextScanLine := 8 } : Antic).nextScanLine = 8 ∧
    (after (step beforeLine8)).out.descr.isSome = true ∧ (after (step beforeLine8)).antic.scanLine = 8 :=
  ⟨by decide, by decide, by decide, .inl ⟨[], rfl, rfl⟩, by decide, by decide, by decide, by decide⟩

theorem test_witness_UnusedWritesChangeNothing : Instr.wUnmappedD7 ∈ [Instr.wAnticUnused6, .wUnmappedD7] := by simp

theorem test_witness_GtiaPageStoresRaw : (0xd0ff : Word) &&& 0xff00 = 0xd000 := by decide

theorem test_witness_CollisionsClearedOnlyByHitclr :
    (∃ addr v rest, (State.reset.setInputs [.write 0xd0fe 7]).inputs = .write addr v :: rest ∧ addr &&& 0xff1f = 0xd01e) ∧
    (∃ t, step (State.reset.setInputs [.write 0xd0fe 7]) = .next t) ∧
    ¬ (∃ addr v rest, (State.reset.setInputs [.collide 0 1]).inputs = .write addr v :: rest ∧ addr &&& 0xff1f = 0xd01e) := by
  refine ⟨⟨_, _, _, rfl, by decide⟩, ⟨_, rfl⟩, ?_⟩
  rintro ⟨addr, v, rest, h, _⟩
  cases h

theorem test_witness_IrqenAcknowledges : ∃ t, exec (.wIrqen 0xd20e 0x40) (irqState 0 0xbf) = .next t := ⟨_, rfl⟩

theorem test_witness_MultiplexerOrsSources : Memory.wf unsetMask [(0, 1), (3, 2)] = true ∧ muxOut [(0, 1), (3, 2)] = 3 := by decide

theorem test_witness_BankResolution :
    resolve ⟨.k128, false, false, 0x5b⟩ .antic .read 0x5000 = .ram 0x19000 ∧
    resolve ⟨.k128, false, false, 0x6b⟩ .cpu .read 0x57ff = .ram 0x197ff ∧
    resolve ⟨.k128, false, false, 0x7b⟩ .cpu .read 0x57ff = .osRom 0x17ff ∧
    resolve ⟨.k128, false, false, 0x7b⟩ .cpu .read 0x5800 = .ram 0x5800 ∧
    resolve ⟨.k320, false, false, 0x6e⟩ .antic .read 0x7fff = .ram 0x4ffff ∧ 0x4ffff ≠ (0x7fff : Word).toNat ∧
    resolve ⟨.k64, false, false, 0xff⟩ .cpu .write 0xffff = .sink ∧ resolve ⟨.k64, false, false, 0xfe⟩ .cpu .write 0xffff = .ram 0xffff ∧
    resolve ⟨.k64, false, false, 0xfe⟩ .antic .read 0xd000 = .io := by decide

theorem test_witness_ViewsDifferOnlyInWindow :
    resolve ⟨.k128, false, false, 0xd3⟩ .cpu .read 0x4000 ≠ resolve ⟨.k128, false, false, 0xd3⟩ .antic .read 0x4000 := by decide

theorem test_witness_CpuWriteReachesItsByte :
    ¬ (0xd000 ≤ (0x2000 : Word).toNat ∧ (0x2000 : Word).toNat ≤ 0xd7ff) ∧
    resolve State.reset.bankEnv .cpu .write 0x2000 = .ram 0x2000 ∧ resolve State.reset.bankEnv .cpu .write 0xe000 = .sink := by
  decide

theorem test_witness_AccessTouchesOnlyItsChip : (Instr.wHitclr 0xd01e 0).busRow = some (0xd01e, 0xd01e, 0xff1f) ∧
    (∃ t, exec (.wHitclr 0xd01e 0) State.reset = .next t) ∧ encode (.wHitclr 0xd01e 0) = writeBytes 0xd01e 0 ∧
    (Instr.rVcount 0xd40b).busRow = some (0xd40b, 0xd40b, 0xff0f) ∧
    (∃ t, exec (.rVcount 0xd40b) State.reset = .next t) ∧ encode (.rVcount 0xd40b) = readBytes 0xd40b :=
  ⟨rfl, ⟨_, rfl⟩, rfl, rfl, ⟨_, rfl⟩, rfl⟩

theorem test_witness_TickAccountsForItsCycles :
    Inv (State.reset.setInputs [.tick true]) ∧
    TicksOn (State.reset.setInputs [.tick true]) true (beginStep [] (State.reset.setInputs [.tick true])) ∧
    ∃ t, step (State.reset.setInputs [.tick true]) = .next t :=
  ⟨inv_of_input _, .inl ⟨[], rfl, rfl⟩, tick_completes true (beginStep [] (State.reset.setInputs [.tick true]))⟩

theorem test_witness_OnlyTicksMoveTime : (State.reset.setInputs [.machineReset]).inputs = .machineReset :: [] ∧
    (∀ b, Input.machineReset ≠ .tick b) ∧ (∀ b, Input.audioDrain ≠ .tick b) ∧ Input.audioDrain ≠ .machineReset ∧
    ∃ t, step (State.reset.setInputs [.machineReset]) = .next t :=
  ⟨rfl, fun _ h => (nomatch h), fun _ h => (nomatch h), fun h => (nomatch h), _, rfl⟩

/-- A tick to come at `(cycle, line)` with WSYNC pending and a window left. -/
def stalledTick (cycle line : Nat) (b : Bool) : State :=
  (State.reset.setAntic { Antic.zero with
    cycle := cycle, scanLine := line, dmaWindows := [⟨105, 5⟩], wsyncPending := true, snapshotDone := true }).setInputs [.tick b]

theorem inv_stalledTick {cycle line : Nat} (b : Bool) (hc : cycle < 114) (hl : line < 312) :
    Inv (stalledTick cycle line b) := by
  obtain ⟨_, hr, hs, ha⟩ := inv_of_input (.tick b)
  refine ⟨⟨hc, hl, rfl, .inl rfl, fun h => absurd rfl h, fun _ _ => rfl, Nat.zero_lt_succ 247, Nat.zero_le 16, .inl rfl⟩,
    ⟨hr.1, hr.2, hr.3, hr.4⟩, ⟨hs.1, hs.2, hs.3, hs.4⟩, ha.1, ?_, ha.3, ha.4⟩
  intro e he; cases he

theorem ticksOn_stalledTick (cycle line : Nat) (b : Bool) :
    TicksOn (stalledTick cycle line b) b (beginStep [] (stalledTick cycle line b)) := .inl ⟨[], rfl, rfl⟩

/-- A boundary inside a line with every window past the landing cycle; a boundary that wraps into vertical blank; a tick
that is no boundary, and one below cycle 5. -/
theorem test_witness_WsyncStall :
    (Inv (stalledTick 40 30 true) ∧ TicksOn (stalledTick 40 30 true) true (beginStep [] (stalledTick 40 30 true)) ∧
      (stalledTick 40 30 true).antic.wsyncPending = true ∧
      (∀ w ∈ (stalledTick 40 30 true).antic.dmaWindows, w.start ≤ 104 → w.start + w.len ≤ 104) ∧
      ∃ t, step (stalledTick 40 30 true) = .next t) ∧
    (Inv (stalledTick 113 247 true) ∧ (advanceCounters (stalledTick 113 247 true).antic).scanLine = 248) ∧
    (Inv (stalledTick 3 30 false) ∧ TicksOn (stalledTick 3 30 false) false (beginStep [] (stalledTick 3 30 false)) ∧
      ∀ w ∈ (stalledTick 3 30 false).antic.dmaWindows, 4 < w.start) :=
  ⟨⟨inv_stalledTick true (by decide) (by decide), ticksOn_stalledTick 40 30 true, rfl, by decide,
      tick_completes true (beginStep [] (stalledTick 40 30 true))⟩,
    ⟨inv_stalledTick true (by decide) (by decide), by decide⟩,
    ⟨inv_stalledTick false (by decide) (by decide), ticksOn_stalledTick 3 30 false, by decide⟩⟩

theorem test_witness_StealsChargeReachedWindows : windowsOk (stalled 20 30 [⟨20, 10⟩, ⟨40, 72⟩] false).antic.dmaWindows = true := by
  decide

/-- The windows of T3 are admitted, and T11's line has none. -/
theorem test_witness_LineSchedule : Admitted [⟨20, 10⟩, ⟨30, 5⟩] ∧ ¬ Admitted [⟨20, 10⟩, ⟨29, 5⟩] ∧
    (scheduleWindows (fun k => [⟨k.lineIndex, 9⟩]) { (at_ 0 30).antic with startScanLine := 28 }).dmaWindows = [⟨2, 9⟩] ∧
    (scheduleWindows (fun _ => [⟨1, 9⟩]) (at_ 0 248).antic).dmaWindows = [] := by
  refine ⟨?_, ?_, by decide, by decide⟩ <;> simp [Admitted]

/-- A configuration that starts, and the same with a schedule that R142 does not admit, or a falling curve, which do not. -/
def handedGood : Handed where
  ramSize := 65536
  osRom := List.replicate 16384 0
  basicRom := none
  cartridge := none
  dmaSchedule := fun _ => [⟨1, 9⟩]
  visibleCycle := 113
  volumeCurve := fun _ => 0

theorem test_start_runs : Start handedGood (.next State.reset) := by
  refine .inr ⟨?_, rfl⟩
  intro r h
  cases r
  · exact h .k64 rfl
  · exact h (List.length_replicate ..)
  · obtain ⟨b, hb, _⟩ := h; cases hb
  · obtain ⟨c, hc, _⟩ := h; cases hc
  · obtain ⟨k, hk⟩ := h; cases hk
  · exact absurd (show 113 < 113 from h) (by decide)
  · exact h ⟨rfl, fun _ => Rat.le_refl⟩

theorem test_start_refuses_schedule :
    Start { handedGood with dmaSchedule := fun _ => [⟨100, 13⟩] } (.refused (.configuration .dmaSchedule)) :=
  .inl ⟨.dmaSchedule, Exists.intro (⟨0, 0, 0, 0, false, false, 0⟩ : DmaKey) rfl, rfl⟩

theorem test_start_refuses_curve :
    Start { handedGood with volumeCurve := fun i => -(i.val : Rat) } (.refused (.configuration .volumeCurve)) := by
  refine .inl ⟨_, ?_, rfl⟩
  rintro ⟨_, h⟩
  have := h 0
  norm_num at this

theorem test_start_refuses_ram : Start { handedGood with ramSize := 49152 } (.refused (.configuration .ramSize)) :=
  .inl ⟨_, fun z => by cases z <;> decide, rfl⟩

theorem test_witness_NmiOnlyWhenEnabled :
    (tickTail 113 false (State.reset.setAntic { (at_ 5 248).antic with nmiPending := some .vbi, nmien := 0x40 })).out.nmi = true ∧
    ∃ t, step ((State.reset.setAntic { (at_ 4 248).antic with nmiPending := some .vbi, nmien := 0x40 }).setInputs [.tick false])
      = .next t :=
  ⟨by decide, tick_completes false (beginStep [] ((State.reset.setAntic
    { (at_ 4 248).antic with nmiPending := some .vbi, nmien := 0x40 }).setInputs [.tick false]))⟩

theorem test_witness_MachineResetResult :
    (State.reset.setInputs [.machineReset, .audioDrain]).inputs = .machineReset :: [.audioDrain] := rfl

theorem test_witness_ChannelEventRule : (0x28 : Byte).getLsbD 7 = false ∧ (0xa8 : Byte).getLsbD 7 = true ∧
    (0xa8 : Byte).getLsbD 5 = true ∧ (0xc8 : Byte).getLsbD 5 = false ∧ (0xc8 : Byte).getLsbD 6 = true ∧
    (0x88 : Byte).getLsbD 6 = false := by decide

theorem test_witness_KeyPressResults : keyMap .a false false = some (0x3f, false, false) ∧
    ∃ key shift ctl, keyMap key shift ctl = some (0x20, true, ctl) := ⟨rfl, .leftBracket, false, false, rfl⟩

theorem test_witness_SynthesisCycle :
    (State.reset.setInputs [.synthCycle, .audioDrain]).inputs = .synthCycle :: [.audioDrain] ∧ 0 ≤ 0 ∧
    lastWrite [⟨5, 1, 0xa8⟩, ⟨5, 8, 1⟩, ⟨5, 1, 0xa4⟩] 1 0 = 0xa4 ∧ lastWrite [⟨5, 1, 0xa8⟩] 3 7 = 7 := by decide

theorem test_witness_LevelSumsVolumes :
    (synthAt 0 #v[0, 0, 0, 0] #v[0x18, 0, 0, 0] 0).audc[(0 : Fin 4)].getLsbD 4 = true ∧
    effOut { synthAt 0 #v[0, 0, 0, 0] #v[0, 0x0f, 0, 0] 0 with outFF := #v[false, true, false, false] } 1 = true ∧
    effOut (synthAt 0 #v[0, 0, 0, 0] #v[0, 0x0f, 0, 0] 0) 3 = false := by decide

end Sys2Proof.Machine.Slice0Tests
end

section
/-! PROOFS. One equation for each way a step begins, one for each bus access that decodes to a register access, and what
an input runs (00_scope R8). -/

namespace Sys2Proof.Machine

/-- A step with an input queued runs that input on the state without it and with the outputs at rest. -/
theorem step_of_inputs_cons {s : State} {i : Input} {rest : List Input} (h : s.inputs = i :: rest) :
    step s = runInput i (beginStep rest s) := by
  simp only [step, h]

/-- A step with no input queued is an idle CPU cycle (40_antic_timing R157). -/
theorem step_of_inputs_nil {s : State} (h : s.inputs = []) : step s = idleCycle s := by
  simp only [step, h]

/-- A bus write that selects a register runs that register write (20_memory R76). -/
theorem busWrite_of_decodeWrite {addr : Word} {v : Byte} {i : Instr} (h : decodeWrite addr v = .ok i) (s : State) :
    busWrite addr v s = exec i s := by
  simp only [busWrite, h]

/-- A bus read that selects a register runs that register read (20_memory R75). -/
theorem busRead_of_decodeRead {addr : Word} {i : Instr} (h : decodeRead addr = .ok i) (s : State) :
    busRead addr s = exec i s := by
  simp only [busRead, h]

/-- Settles O6: the input at the head of the list picks one arm of `runInput`; a bus access that decodes goes on to `exec`,
and the empty list is the idle cycle. -/
theorem inputRunsItsAction : Obligations.InputRunsItsAction := by
  intro s rest s0
  have hbegin : beginStep rest s = s0 := rfl
  have hstep : ∀ {i : Input}, s.inputs = i :: rest → step s = runInput i s0 := fun h =>
    hbegin ▸ step_of_inputs_cons h
  refine ⟨hbegin, ?writeRegister, ?readRegister, ?write, ?read, ?tick, ?keyPress, ?irqEvent, ?collide, ?setTrigger,
    ?muxSet, ?audioDrain, ?synthCycle, ?machineReset, ?idle⟩
  case writeRegister => exact fun addr v i h hdecode => (hstep h).trans (busWrite_of_decodeWrite hdecode s0)
  case readRegister => exact fun addr i h hdecode => (hstep h).trans (busRead_of_decodeRead hdecode s0)
  case write => exact fun _ _ h => hstep h
  case read => exact fun _ h => hstep h
  case tick => exact fun _ h => hstep h
  case keyPress => exact fun _ _ _ _ h => hstep h
  case irqEvent => exact fun _ h => hstep h
  case collide => exact fun _ _ h => hstep h
  case setTrigger => exact fun _ _ h => hstep h
  case muxSet => exact fun _ _ _ h => hstep h
  case audioDrain => exact hstep
  case synthCycle => exact hstep
  case machineReset => exact hstep
  case idle =>
    intro h hrest
    subst hrest
    exact step_of_inputs_nil h

end Sys2Proof.Machine
end

section
/-! PROOFS. What a bus access can change, chip by chip. -/

namespace Sys2Proof.Machine

/-! ### Bus reads -/

/-- Only the outputs and the counter of free values differ. -/
def OutputOnly (s t : State) : Prop := t = { s with out := t.out, draws := t.draws }

/-- A register read changes the outputs and the counter of free values alone (20_memory R75, R78). -/
theorem exec_read_outputOnly {addr : Word} {i : Instr} {s t : State} (hi : decodeRead addr = .ok i)
    (h : exec i s = .next t) : OutputOnly s t := by
  have gtia : ∀ n : Fin 32, exec (gtiaReads[n] addr) s = .next t → OutputOnly s t := by
    intro n h; fin_cases n <;> (cases h; rfl)
  have pokey : ∀ n : Fin 16, exec (pokeyReads[n] addr) s = .next t → OutputOnly s t := by
    intro n h; fin_cases n <;> (cases h; rfl)
  have pia : ∀ n : Fin 4, exec (piaReads[n] addr) s = .next t → OutputOnly s t := by
    intro n h; fin_cases n <;> (cases h; rfl)
  have antic : ∀ n : Fin 16, exec (anticReads[n] addr) s = .next t → OutputOnly s t := by
    intro n h; fin_cases n <;> (cases h; rfl)
  unfold decodeRead at hi
  split at hi
  · cases hi; exact gtia _ h
  · cases hi; cases h; rfl
  · cases hi; exact pokey _ h
  · cases hi; exact pia _ h
  · cases hi; exact antic _ h
  · cases hi; cases h; rfl
  · cases hi; cases h; rfl
  · cases hi; cases h; rfl
  · cases hi

/-- A bus read changes the outputs and the counter of free values alone (20_memory R70, R78). -/
theorem busRead_outputOnly {addr : Word} {s t : State} (h : busRead addr s = .next t) : OutputOnly s t := by
  rcases busRead_cases h with ⟨i, hi, hexec⟩ | ⟨-, rfl⟩
  · exact exec_read_outputOnly hi hexec
  · rfl

/-! ### Register writes -/

/-- A write to the GTIA page changes GTIA alone; HITCLR clears every collision register, and no other write changes one
(43_gtia R240, R271). -/
theorem exec_gtiaWrites (n : Fin 32) (addr : Word) (v : Byte) (s : State) :
    ∃ g, exec (gtiaWrites[n] addr v) s = .next (s.setGtia g) ∧
      g.collisions = if n = 0x1e then Vector.replicate 16 0 else s.gtia.collisions := by
  fin_cases n <;> exact ⟨_, rfl, rfl⟩

/-- Only the registers of ANTIC that the bus writes differ: the raster, the mode line, the windows and the latched NMI
stay (42_antic_registers R210 to R220). -/
def AnticWritten (a b : Antic) : Prop := b = { a with
  dmactl := b.dmactl, chactl := b.chactl, dlist := b.dlist, hscrol := b.hscrol, vscrol := b.vscrol
  pmbase := b.pmbase, chbase := b.chbase, nmien := b.nmien, nmist := b.nmist, wsyncPending := b.wsyncPending }

/-- A write to the ANTIC page changes registers of ANTIC alone; NMIRES clears NMIST, and no other write changes it
(42_antic_registers R220). -/
theorem exec_anticWrites (n : Fin 16) (addr : Word) (v : Byte) (s : State) :
    ∃ a, exec (anticWrites[n] addr v) s = .next (s.setAntic a) ∧ AnticWritten s.antic a ∧
      a.nmist = if n = 0xf then 0 else s.antic.nmist := by
  fin_cases n <;> exact ⟨_, rfl, rfl, rfl⟩

/-- A write to the POKEY page changes POKEY alone: SKSTAT stays, and the nine audio registers append to the queue
(44_pokey_registers R300 to R316). -/
theorem exec_pokeyWrites (n : Fin 16) (addr : Word) (v : Byte) (s : State) :
    ∃ p, exec (pokeyWrites[n] addr v) s = .next (s.setPokey p) ∧ p.skstat = s.pokey.skstat ∧
      p.audioQueue = if h : n.val < 9 then
        s.pokey.audioQueue ++ [{ timestamp := s.antic.totalCycles, reg := ⟨n, h⟩, value := v }]
      else s.pokey.audioQueue := by
  fin_cases n <;> exact ⟨_, rfl, rfl, rfl⟩

/-- A write to the PIA page changes the PIA alone; PACTL and PBCTL take bits 5:0 of their own write, and no other write
changes them (46_pia_and_inputs R370 to R373). -/
theorem exec_piaWrites (n : Fin 4) (addr : Word) (v : Byte) (s : State) :
    ∃ p, exec (piaWrites[n] addr v) s = .next (s.setPia p) ∧
      p.pactl = (if n = 2 then v &&& 0x3f else s.pia.pactl) ∧
      p.pbctl = (if n = 3 then v &&& 0x3f else s.pia.pbctl) := by
  fin_cases n
  · refine ⟨_, rfl, ?_, ?_⟩ <;> (split <;> rfl)
  · refine ⟨_, rfl, ?_, ?_⟩ <;> (split <;> rfl)
  · exact ⟨_, rfl, rfl, rfl⟩
  · exact ⟨_, rfl, rfl, rfl⟩

/-! ### Bus writes -/

/-- HITCLR is register 0x1e of page 0xd0, at every mirror (43_gtia R271, 30_encoding R108). -/
theorem selectsHitclr_iff (addr : Word) :
    addr &&& 0xff1f = 0xd01e ↔ highByte addr = 0xd0 ∧ addr.extractLsb' 0 5 = 0x1e := by
  constructor
  · intro h
    have hpage : highByte (addr &&& 0xff1f) = highByte addr &&& BitVec.allOnes 8 := BitVec.extractLsb'_and
    have hreg : (addr &&& 0xff1f).extractLsb' 0 5 = addr.extractLsb' 0 5 &&& BitVec.allOnes 5 :=
      BitVec.extractLsb'_and
    rw [h, BitVec.and_allOnes] at hpage hreg
    exact ⟨hpage.symm, hreg.symm⟩
  · rintro ⟨hpage, hreg⟩
    have hsplit : addr &&& 0xff1f = highByte addr ++ (0#3 ++ addr.extractLsb' 0 5) := by
      refine BitVec.eq_of_getLsbD_eq fun i hi => ?_
      rw [BitVec.getLsbD_append, BitVec.getLsbD_append]
      interval_cases i <;> simp [highByte]
    rw [hsplit, hpage, hreg]
    rfl

/-- A write that selects HITCLR decodes to it. -/
theorem decodeWrite_of_selectsHitclr {addr : Word} (v : Byte) (h : addr &&& 0xff1f = 0xd01e) :
    decodeWrite addr v = .ok (.wHitclr addr v) := by
  obtain ⟨hpage, hreg⟩ := (selectsHitclr_iff addr).mp h
  have hreg : (addr.extractLsb' 0 5).toFin = 0x1e := congrArg BitVec.toFin hreg
  have hgtia : decodeWrite addr v = .ok (gtiaWrites[(addr.extractLsb' 0 5).toFin] addr v) := by
    unfold decodeWrite
    rw [hpage]
    rfl
  exact hgtia.trans (congrArg (fun n : Fin 32 => Except.ok (gtiaWrites[n] addr v)) hreg)

/-- What a bus write of `v` at `addr` can make of `s`: one chip, the cartridge, one RAM byte or nothing changes
(20_memory R71, R76). -/
inductive BusWriteResult (addr : Word) (v : Byte) (s : State) : State → Prop where
  | gtia (g : Gtia) (collisions : g.collisions =
      if addr &&& 0xff1f = 0xd01e then Vector.replicate 16 0 else s.gtia.collisions) :
      BusWriteResult addr v s (s.setGtia g)
  | antic (a : Antic) (written : AnticWritten s.antic a) (nmist : a.nmist = 0 ∨ a.nmist = s.antic.nmist) :
      BusWriteResult addr v s (s.setAntic a)
  | pokey (p : Pokey) (skstat : p.skstat = s.pokey.skstat) (queue : p.audioQueue = s.pokey.audioQueue ∨
      ∃ r, p.audioQueue = s.pokey.audioQueue ++ [{ timestamp := s.antic.totalCycles, reg := r, value := v }]) :
      BusWriteResult addr v s (s.setPokey p)
  | pia (p : Pia) (pactl : p.pactl = v &&& 0x3f ∨ p.pactl = s.pia.pactl)
      (pbctl : p.pbctl = v &&& 0x3f ∨ p.pbctl = s.pia.pbctl) : BusWriteResult addr v s (s.setPia p)
  | cart (c : Nat) : BusWriteResult addr v s (s.setCart c)
  | ignored : BusWriteResult addr v s s
  | ram (i : Nat) (target : resolve s.bankEnv .cpu .write addr = .ram i) : BusWriteResult addr v s (s.setRam i v)

/-- A register write has one of the results of a bus write. -/
theorem exec_write_result {addr : Word} {v : Byte} {i : Instr} {s t : State} (hi : decodeWrite addr v = .ok i)
    (h : exec i s = .next t) : BusWriteResult addr v s t := by
  unfold decodeWrite at hi
  split at hi
  · rename_i hpage
    cases hi
    obtain ⟨g, hg, hcollisions⟩ := exec_gtiaWrites (addr.extractLsb' 0 5).toFin addr v s
    cases hg.symm.trans h
    have hselect : addr &&& 0xff1f = 0xd01e ↔ (addr.extractLsb' 0 5).toFin = 0x1e := by
      rw [selectsHitclr_iff, ← BitVec.toNat_inj, ← BitVec.toFin_inj]
      exact and_iff_right hpage
    exact .gtia g (by simp only [hcollisions, hselect])
  · cases hi; cases h; exact .ignored
  · cases hi
    obtain ⟨p, hp, hskstat, hqueue⟩ := exec_pokeyWrites (addr.extractLsb' 0 4).toFin addr v s
    cases hp.symm.trans h
    refine .pokey p hskstat ?_
    split at hqueue
    · exact .inr ⟨_, hqueue⟩
    · exact .inl hqueue
  · cases hi
    obtain ⟨p, hp, hpactl, hpbctl⟩ := exec_piaWrites (addr.extractLsb' 0 2).toFin addr v s
    cases hp.symm.trans h
    exact .pia p (hpactl ▸ ite_eq_or_eq ..) (hpbctl ▸ ite_eq_or_eq ..)
  · cases hi
    obtain ⟨a, ha, hwritten, hnmist⟩ := exec_anticWrites (addr.extractLsb' 0 4).toFin addr v s
    cases ha.symm.trans h
    exact .antic a hwritten (hnmist ▸ ite_eq_or_eq ..)
  · cases hi; cases h; exact .cart _
  · cases hi; cases h; exact .ignored
  · cases hi; cases h; exact .ignored
  · cases hi

/-- A bus write has one of its results. -/
theorem busWrite_result {addr : Word} {v : Byte} {s t : State} (h : busWrite addr v s = .next t) :
    BusWriteResult addr v s t := by
  rcases busWrite_cases h with ⟨i, hi, hexec⟩ | ⟨-, rfl⟩
  · exact exec_write_result hi hexec
  · rcases memWriteCpu_eq s addr v with heq | ⟨i, hi, heq⟩
    · exact heq.symm ▸ .ignored
    · exact heq.symm ▸ .ram i hi

end Sys2Proof.Machine
end

section
/-! PROOFS. The display-list pointer's page, the collision registers and the time: what one step can do to them. -/

namespace Sys2Proof.Machine

/-! ### The display-list pointer -/

/-- Bits 15:10 of `dlist_offset(k)` are the pointer's, bits 9:0 the sum's (10_state R27). -/
theorem dlistOffset_eq_append (d : Word) (k : Nat) :
    dlistOffset d k = d.extractLsb' 10 6 ++ (d + BitVec.ofNat 16 k).extractLsb' 0 10 := by
  unfold dlistOffset
  refine BitVec.eq_of_getLsbD_eq fun i hi => ?_
  rw [BitVec.getLsbD_append]
  interval_cases i <;> simp

/-- Settles O15: the page is the pointer divided by 1024, and the offset the sum modulo 1024, which the wrap at 2 ^ 16
does not change. -/
theorem displayListPointerWrapsInPage : Obligations.DisplayListPointerWrapsInPage := by
  intro d k
  have hd := d.isLt
  rw [dlistOffset_eq_append, BitVec.toNat_append, ← Nat.shiftLeft_add_eq_or_of_lt (BitVec.isLt _)]
  simp only [BitVec.extractLsb'_toNat, BitVec.toNat_add, BitVec.toNat_ofNat, Nat.shiftLeft_eq,
    Nat.shiftRight_eq_div_pow]
  omega

/-! ### What ticks and host events leave unchanged -/

theorem tick_anticOnly {b : Bool} {s t : State} (h : tick b s = .next t) : AnticOnly s t := by
  rcases tick_cases h with ⟨-, rfl⟩ | ⟨-, -, rfl⟩ | ⟨-, -, u, hu, rfl⟩
  · exact (AnticOnly.setAntic _ _).trans (tickTail_anticOnly ..)
  · exact ((AnticOnly.setAntic _ _).trans (scheduleLine_anticOnly _)).trans (tickTail_anticOnly ..)
  · obtain ⟨-, honly, -⟩ := prepareModeLine_effect hu
    exact (((AnticOnly.setAntic _ _).trans honly).trans (scheduleLine_anticOnly u)).trans (tickTail_anticOnly ..)

/-- Only POKEY and the outputs differ. -/
def PokeyOnly (s t : State) : Prop := t = { s with pokey := t.pokey, out := t.out }

theorem keyPress_pokeyOnly (key : HostKey) (pressed shift ctl : Bool) (s : State) :
    PokeyOnly s (keyPress key pressed shift ctl s) := by
  unfold keyPress
  split
  · rfl
  · split <;> rfl

theorem irqEvent_pokeyOnly (source : IrqSource) (s : State) : PokeyOnly s (irqEvent source s) := by
  unfold irqEvent
  split <;> rfl

/-- Only the Multiplexers differ. -/
def MuxOnly (s t : State) : Prop := t = { s with joyMux := t.joyMux, consolMux := t.consolMux }

theorem muxSet_muxOnly (mux : MuxId) (source : Nat) (mask : Byte) (s : State) :
    MuxOnly s (muxSet mux source mask s) := by
  cases mux <;> rfl

/-! ### Collision registers -/

/-- Every collision bit that is set in `g` is set in `g'`. -/
def CollisionsKept (g g' : Gtia) : Prop := ∀ i : Fin 16, g.collisions[i] &&& g'.collisions[i] = g.collisions[i]

theorem CollisionsKept.of_eq {g g' : Gtia} (h : g'.collisions = g.collisions) : CollisionsKept g g' := by
  intro i
  rw [h, BitVec.and_self]

theorem and_or_self_left (x y : Byte) : x &&& (x ||| y) = x := by
  ext i hi
  rw [BitVec.getElem_and, BitVec.getElem_or]
  cases x[i] <;> rfl

/-- A collision input only adds bits (43_gtia R296). -/
theorem collide_collisionsKept (i : Fin 16) (m : Byte) (s : State) : CollisionsKept s.gtia (collide i m s).gtia := by
  intro j
  by_cases hij : i = j
  · subst hij
    simp [collide, and_or_self_left]
  · have hne : i.val ≠ j.val := fun heq => hij (Fin.ext heq)
    simp [collide, hne]

/-- A write that selects HITCLR leaves every collision register 0 (43_gtia R271). -/
theorem busWrite_hitclr {addr : Word} {v : Byte} {s t : State} (hselect : addr &&& 0xff1f = 0xd01e)
    (h : busWrite addr v s = .next t) (i : Fin 16) : t.gtia.collisions[i] = 0 := by
  rw [busWrite_of_decodeWrite (decodeWrite_of_selectsHitclr v hselect)] at h
  cases h
  exact Vector.getElem_replicate _

/-- A write that does not select HITCLR leaves the collision registers as they are. -/
theorem busWrite_collisions {addr : Word} {v : Byte} {s t : State} (hselect : addr &&& 0xff1f ≠ 0xd01e)
    (h : busWrite addr v s = .next t) : t.gtia.collisions = s.gtia.collisions := by
  cases busWrite_result h with
  | gtia g hcollisions => exact hcollisions.trans (if_neg hselect)
  | antic | pokey | pia | cart | ignored | ram => rfl

/-- An input that is no write to HITCLR clears no collision bit. -/
theorem runInput_collisionsKept {i : Input} {s t : State}
    (hselect : ∀ addr v, i = .write addr v → addr &&& 0xff1f ≠ 0xd01e) (h : runInput i s = .next t) : CollisionsKept s.gtia t.gtia := by
  cases i
  case tick b => exact .of_eq (by rw [(tick_anticOnly h).gtia])
  case collide i m => cases h; exact collide_collisionsKept i m s
  case write addr v => exact .of_eq (busWrite_collisions (hselect addr v rfl) h)
  case read addr => exact .of_eq (by rw [busRead_outputOnly h])
  case keyPress key pressed shift ctl => cases h; exact .of_eq (by rw [keyPress_pokeyOnly])
  case irqEvent source => cases h; exact .of_eq (by rw [irqEvent_pokeyOnly])
  case setTrigger i pressed => cases h; exact .of_eq rfl
  case muxSet mux source mask => cases h; exact .of_eq (by rw [muxSet_muxOnly])
  case audioDrain => cases h; exact .of_eq rfl
  case synthCycle => cases h; exact .of_eq rfl
  case machineReset => cases h; exact .of_eq rfl

/-- Settles O30: of all inputs only a write to HITCLR clears a collision bit, and it clears them all. -/
theorem collisionsClearedOnlyByHitclr : Obligations.CollisionsClearedOnlyByHitclr := by
  intro s t h
  constructor
  · rintro ⟨addr, v, rest, hinputs, hselect⟩
    rw [step_of_inputs_cons hinputs] at h
    exact busWrite_hitclr hselect h
  · intro hother
    rcases step_cases h with ⟨-, htick⟩ | ⟨i, rest, hinputs, hrun⟩
    · exact CollisionsKept.of_eq (by rw [(tick_anticOnly htick).gtia]; rfl)
    · refine runInput_collisionsKept (s := beginStep rest s) ?_ hrun
      rintro addr v rfl hselect
      exact hother ⟨addr, v, rest, hinputs, hselect⟩

/-! ### Time -/

/-- Two states of ANTIC stand at the same cycle of the same line, with the same total. -/
def SameTime (a b : Antic) : Prop :=
  b.totalCycles = a.totalCycles ∧ b.cycle = a.cycle ∧ b.scanLine = a.scanLine

theorem SameTime.of_eq {a b : Antic} (h : b = a) : SameTime a b := h ▸ ⟨rfl, rfl, rfl⟩

theorem AnticWritten.sameTime {a b : Antic} (h : AnticWritten a b) : SameTime a b := by
  rw [h]
  exact ⟨rfl, rfl, rfl⟩

theorem busWrite_sameTime {addr : Word} {v : Byte} {s t : State} (h : busWrite addr v s = .next t) :
    SameTime s.antic t.antic := by
  cases busWrite_result h with
  | antic a hwritten => exact hwritten.sameTime
  | gtia | pokey | pia | cart | ignored | ram => exact .of_eq rfl

/-- An input other than a tick and the machine reset stands still in time (40_antic_timing R157, R158). -/
theorem runInput_sameTime {i : Input} {s t : State} (htick : ∀ b, i ≠ .tick b) (hreset : i ≠ .machineReset)
    (h : runInput i s = .next t) : SameTime s.antic t.antic := by
  cases i
  case tick b => exact absurd rfl (htick b)
  case machineReset => exact absurd rfl hreset
  case write addr v => exact busWrite_sameTime h
  case read addr => exact .of_eq (by rw [busRead_outputOnly h])
  case keyPress key pressed shift ctl => cases h; exact .of_eq (by rw [keyPress_pokeyOnly])
  case irqEvent source => cases h; exact .of_eq (by rw [irqEvent_pokeyOnly])
  case muxSet mux source mask => cases h; exact .of_eq (by rw [muxSet_muxOnly])
  case collide i m => cases h; exact .of_eq rfl
  case setTrigger i pressed => cases h; exact .of_eq rfl
  case audioDrain => cases h; exact .of_eq rfl
  case synthCycle => cases h; exact .of_eq rfl

/-- Settles O47: the machine reset keeps the total alone, and every other input but a tick keeps the raster too. -/
theorem onlyTicksMoveTime : Obligations.OnlyTicksMoveTime := by
  intro s t i rest hinputs htick h
  rw [step_of_inputs_cons hinputs] at h
  by_cases hreset : i = .machineReset
  · subst hreset
    cases h
    exact ⟨rfl, fun hother => absurd rfl hother⟩
  · obtain ⟨htotal, hraster⟩ := runInput_sameTime htick hreset h
    exact ⟨htotal, fun _ => hraster⟩

end Sys2Proof.Machine
end

section
/-! PROOFS. The timing clauses of the invariant: which hold all through a tick, and what brings the others back at its
end. -/

namespace Sys2Proof.Machine

/-! ### ANTIC's ranges inside a tick -/

/-- The ranges of `TimingInv` that hold at every point of a tick; its two other clauses hold between ticks. -/
structure RasterInv (a : Antic) : Prop where
  cycle_lt : a.cycle < 114
  line_lt : a.scanLine < 312
  windows_ok : windowsOk a.dmaWindows = true
  nmist_one : a.nmist = 0 ∨ a.nmist = 0x80 ∨ a.nmist = 0x40
  start_lt : a.startScanLine < 248
  height_le : a.lineHeight ≤ 16
  next_visible : a.nextScanLine = 0 ∨ visible a.nextScanLine = true

theorem TimingInv.raster {a : Antic} (h : TimingInv a) : RasterInv a :=
  ⟨h.cycle_lt, h.line_lt, h.windows_ok, h.nmist_one, h.start_lt, h.height_le, h.next_visible⟩

theorem visible_iff {l : Nat} : visible l = true ↔ 8 ≤ l ∧ l < 248 := by simp [visible]

/-- Mode lines start on visible lines (40_antic_timing R133). -/
theorem visible_of_isNewModeLine {a : Antic} (h : isNewModeLine a = true) : visible a.scanLine = true :=
  (Bool.and_eq_true_iff.mp h).1

theorem RasterInv.advanceCounters {a : Antic} (h : RasterInv a) : RasterInv (advanceCounters a) := by
  have hcycle := h.cycle_lt
  unfold Machine.advanceCounters
  split
  · exact { h with cycle_lt := by simp, line_lt := Nat.mod_lt _ (by decide) }
  · exact { h with cycle_lt := by simp only; omega }

/-- A mode line that starts on a visible line leaves its start, its height and the next start in their ranges. -/
theorem RasterInv.modeLine {a b : Antic} (h : RasterInv a) (hvisible : visible a.scanLine = true)
    (he : ModeLineEffect { a with startScanLine := a.scanLine } b) : RasterInv b := by
  have hstart : b.startScanLine = a.scanLine := congrArg Antic.startScanLine he.frame
  exact {
    cycle_lt := congrArg Antic.cycle he.frame ▸ h.cycle_lt
    line_lt := congrArg Antic.scanLine he.frame ▸ h.line_lt
    windows_ok := congrArg Antic.dmaWindows he.frame ▸ h.windows_ok
    nmist_one := congrArg Antic.nmist he.frame ▸ h.nmist_one
    start_lt := hstart ▸ (visible_iff.mp hvisible).2
    height_le := he.height_le
    next_visible := by
      rcases he.next with hnext | hnext
      · exact .inr (hnext ▸ rfl)
      · exact .inr (hnext ▸ nextLine_visible (visible_iff.mp hvisible).1) }

/-- Every admitted schedule, and the empty one of the vertical blank, is well formed (40_antic_timing R142, R144). -/
theorem RasterInv.scheduleLine {s : State} (h : RasterInv s.antic) : RasterInv (scheduleLine s).antic :=
  { h with
    windows_ok := by
      simp only [Machine.scheduleLine, State.setAntic_antic, checkNmi, scheduleWindows]
      split
      · exact Config.dmaSchedule.admitted _
      · rfl }

theorem RasterInv.applyWsync {s : State} (h : RasterInv s.antic) (b : Bool) : RasterInv (applyWsync b s).antic := by
  rw [(applyWsync_fields b s).1]
  have hcycle := h.cycle_lt
  have htarget := (wsyncTarget_bounds hcycle).2
  refine { h with cycle_lt := ?_ }
  simp only
  split <;> omega

/-- The fire step leaves NMIST or sets exactly one bit of it (40_antic_timing R152). -/
theorem fireIfDue_nmist (s : State) :
    (fireIfDue s).antic.nmist = s.antic.nmist ∨
      (fireIfDue s).antic.nmist = 0x80 ∨ (fireIfDue s).antic.nmist = 0x40 := by
  unfold fireIfDue
  split
  · exact .inl rfl
  · rename_i k _
    split
    · cases k
      case dli => exact .inr (.inl rfl)
      case vbi => exact .inr (.inr rfl)
    · exact .inl rfl

theorem RasterInv.fireIfDue {s : State} (h : RasterInv s.antic) : RasterInv (fireIfDue s).antic := by
  have hnmist := fireIfDue_nmist s
  rw [(fireIfDue_fields s).1]
  refine { h with nmist_one := ?_ }
  rcases hnmist with hsame | hset
  · exact hsame ▸ h.nmist_one
  · exact .inr hset

/-- A request that the fire step leaves latched is before cycle 5. -/
theorem cycle_lt_of_fireIfDue_pending {s : State} (h : (fireIfDue s).antic.nmiPending ≠ none) :
    (fireIfDue s).antic.cycle < 5 := by
  rw [(fireIfDue_fields s).1] at h ⊢
  by_contra hlate
  exact h (if_neg hlate)

/-- From the snapshot step on, the line's snapshot is taken by its last cycle (40_antic_timing R155). -/
theorem RasterInv.snapshotIfDue {s : State} {vc : Nat} (h : RasterInv s.antic) (hvc : vc ≤ 113)
    (hnmi : s.antic.nmiPending ≠ none → s.antic.cycle ≤ 112) : TimingInv (snapshotIfDue vc s).antic :=
  { h with
    nmi_fired := hnmi
    snapshot_taken := fun hvisible hlast => by
      have hdue : snapshotDue vc s.antic = !s.antic.snapshotDone := by
        have hreached : vc ≤ s.antic.cycle := hvc.trans (Nat.le_of_eq hlast.symm)
        simp [snapshotDue, show visible s.antic.scanLine = true from hvisible, hreached]
      change (s.antic.snapshotDone || snapshotDue vc s.antic) = true
      rw [hdue, Bool.or_not_self] }

/-- The steals carry the counter to cycle 112 at the most (40_antic_timing R142, R145). -/
theorem TimingInv.applySteals {s : State} (h : TimingInv s.antic) : TimingInv (applySteals s).antic := by
  obtain ⟨-, -, -, -, -, -, -, hle⟩ := stealWalk_spec (c := s.antic.cycle) h.windows_ok
  have hcycle := h.cycle_lt
  rw [applySteals_eq]
  exact { h with
    cycle_lt := by simp only; omega
    windows_ok := stealWalk_ok h.windows_ok
    nmi_fired := fun hpending => by have := h.nmi_fired hpending; simp only; omega
    snapshot_taken := fun hvisible hlast => h.snapshot_taken hvisible (by simp only at hlast; omega) }

/-- Steps (5) to (8) of a tick bring back all of `TimingInv`. -/
theorem RasterInv.tickTail {s : State} {vc : Nat} (h : RasterInv s.antic) (hvc : vc ≤ 113) (b : Bool) :
    TimingInv (tickTail vc b s).antic :=
  ((h.applyWsync b).fireIfDue.snapshotIfDue hvc
    fun hpending => by have := cycle_lt_of_fireIfDue_pending hpending; omega).applySteals

/-! ### The total through a tick -/

theorem applyWsync_total_le (b : Bool) (s : State) : s.antic.totalCycles ≤ (applyWsync b s).antic.totalCycles := by
  rw [(applyWsync_fields b s).1]
  exact Nat.le_add_right _ _

theorem fireIfDue_total (s : State) : (fireIfDue s).antic.totalCycles = s.antic.totalCycles := by
  rw [(fireIfDue_fields s).1]

theorem tickTail_total_le (vc : Nat) (b : Bool) (s : State) :
    s.antic.totalCycles ≤ (tickTail vc b s).antic.totalCycles :=
  calc s.antic.totalCycles
    _ ≤ (applyWsync b s).antic.totalCycles := applyWsync_total_le b s
    _ = (snapshotIfDue vc (fireIfDue (applyWsync b s))).antic.totalCycles := (fireIfDue_total _).symm
    _ ≤ (tickTail vc b s).antic.totalCycles := Nat.le_add_right _ _

theorem advanceCounters_total (a : Antic) : (advanceCounters a).totalCycles = a.totalCycles + 1 := by
  unfold advanceCounters
  split <;> rfl

theorem scheduleLine_total (s : State) : (scheduleLine s).antic.totalCycles = s.antic.totalCycles := rfl

/-! ### A whole tick -/

/-- Steps (1) to (4) of a tick hand on ANTIC in its ranges and a total that has not gone back. -/
theorem tick_reaches_tail {b : Bool} {s t : State} (h : tick b s = .next t) (hs : RasterInv s.antic) :
    ∃ u, t = tickTail Config.visibleCycle.val b u ∧ RasterInv u.antic ∧ s.antic.totalCycles ≤ u.antic.totalCycles := by
  have hadvance := hs.advanceCounters
  have htotal : s.antic.totalCycles ≤ (advanceCounters s.antic).totalCycles := by
    rw [advanceCounters_total]
    exact Nat.le_succ _
  have hline : RasterInv { advanceCounters s.antic with snapshotDone := false } := { hadvance with }
  rcases tick_cases h with ⟨-, rfl⟩ | ⟨-, -, rfl⟩ | ⟨-, hnew, u, hu, rfl⟩
  · exact ⟨_, rfl, hadvance, htotal⟩
  · refine ⟨_, rfl, RasterInv.scheduleLine hline, ?_⟩
    rw [scheduleLine_total]
    exact htotal
  · obtain ⟨heffect, -, -⟩ := prepareModeLine_effect hu
    refine ⟨_, rfl, (hline.modeLine (visible_of_isNewModeLine hnew) heffect).scheduleLine, ?_⟩
    rw [scheduleLine_total, heffect.frame]
    exact htotal

/-- A tick keeps ANTIC's invariant and never takes the total back. -/
theorem tick_timing {b : Bool} {s t : State} (h : tick b s = .next t) (hs : TimingInv s.antic) :
    TimingInv t.antic ∧ s.antic.totalCycles ≤ t.antic.totalCycles := by
  obtain ⟨u, rfl, hraster, htotal⟩ := tick_reaches_tail h hs.raster
  exact ⟨hraster.tickTail (Nat.le_of_lt_succ Config.visibleCycle.isLt) b, htotal.trans (tickTail_total_le ..)⟩

/-! ### ANTIC outside a tick -/

theorem AnticWritten.timing {a b : Antic} (h : AnticWritten a b) (hnmist : b.nmist = 0 ∨ b.nmist = a.nmist)
    (ha : TimingInv a) : TimingInv b := by
  rw [h]
  refine { ha with nmist_one := ?_ }
  rcases hnmist with hclear | hsame
  · exact .inl hclear
  · exact hsame ▸ ha.nmist_one

theorem AnticWritten.total {a b : Antic} (h : AnticWritten a b) : b.totalCycles = a.totalCycles := by
  rw [h]

theorem timingInv_resetAntic (a : Antic) : TimingInv (resetAntic a) where
  cycle_lt := Nat.zero_lt_succ _
  line_lt := Nat.zero_lt_succ _
  windows_ok := rfl
  nmist_one := .inl rfl
  nmi_fired := fun h => absurd rfl h
  snapshot_taken := fun _ h => nomatch h
  start_lt := Nat.zero_lt_succ _
  height_le := Nat.zero_le _
  next_visible := .inl rfl

end Sys2Proof.Machine
end

section
/-! PROOFS. The register, storage and audio clauses of the invariant: what each rests on, and what keeps it. -/

namespace Sys2Proof.Machine

/-! ### Register files -/

/-- `RegisterInv` speaks of the collision registers, SKSTAT and the PIA's control registers alone. -/
theorem RegisterInv.of_eq {s t : State} (h : RegisterInv s) (hcollisions : t.gtia.collisions = s.gtia.collisions)
    (hskstat : t.pokey.skstat = s.pokey.skstat) (hpia : t.pia = s.pia) : RegisterInv t where
  collisions_low := hcollisions ▸ h.collisions_low
  skstat_ones := hskstat ▸ h.skstat_ones
  pactl_low := hpia ▸ h.pactl_low
  pbctl_low := hpia ▸ h.pbctl_low

/-- A collision input sets only bits 3:0 (43_gtia R296). -/
theorem collision_low_or {c : Byte} (h : c &&& 0xf0 = 0) (m : Byte) : (c ||| (m &&& 0x0f)) &&& 0xf0 = 0 := by
  rw [BitVec.and_or_distrib_right, h, BitVec.and_assoc]
  simp

/-- A control register takes bits 5:0 of a write (46_pia_and_inputs R372). -/
theorem control_low (v : Byte) : (v &&& 0x3f) &&& 0xc0 = 0 := by
  rw [BitVec.and_assoc]
  simp

/-- A key press drives SKSTAT bits 2 and 3 alone (44_pokey_registers R332). -/
theorem skstatPress_ones {k : Byte} (shift : Bool) (h : k ||| 0x0c = 0xff) : skstatPress k shift ||| 0x0c = 0xff := by
  revert k shift; decide

/-- A key release drives SKSTAT bits 2 and 3 alone (44_pokey_registers R332). -/
theorem skstatRelease_ones {k : Byte} (h : k ||| 0x0c = 0xff) : skstatRelease k ||| 0x0c = 0xff := by
  revert k; decide

/-! ### Storage -/

/-- `StorageInv` speaks of the three lists of cells alone. -/
theorem StorageInv.of_eq {s t : State} (h : StorageInv s) (hmem : t.mem = s.mem) (hjoy : t.joyMux = s.joyMux)
    (hconsol : t.consolMux = s.consolMux) : StorageInv t where
  mem_wf := hmem ▸ h.mem_wf
  joy_wf := hjoy ▸ h.joy_wf
  consol_wf := hconsol ▸ h.consol_wf
  mem_inside := hmem ▸ h.mem_inside

/-- Every RAM variant has the 64 KB that the address space reaches (20_memory R73). -/
theorem addr_lt_ramBytes (z : RamSize) (addr : Word) : addr.toNat < z.bytes :=
  lt_of_lt_of_le addr.isLt (by cases z <;> decide)

/-- A selected extended bank lies inside the RAM of its variant (20_memory R73). -/
theorem extBank_inside {e : BankEnv} {view : View} (h : extSelected e view = true) :
    0x10000 + (extBank e + 1) * 0x4000 ≤ e.ramSize.bytes := by
  have hlow := (e.portb.extractLsb' 2 2).isLt
  have hhigh := (e.portb.extractLsb' 5 2).isLt
  unfold extSelected at h
  unfold extBank RamSize.bytes
  cases hz : e.ramSize <;> rw [hz] at h <;> simp only at h ⊢
  case k64 => cases h
  case k128 => omega
  case k320 => omega

/-- A read of read-only storage, and a write that it sinks, reach no RAM (20_memory R74). -/
theorem romTarget_ne_ram {kind : AccessKind} {t : Target} {i : Nat} (ht : ∀ j, t ≠ .ram j) :
    romTarget kind t ≠ .ram i := by
  cases kind
  case read => exact ht i
  case write => exact nofun

/-- An access that resolves to RAM resolves to a byte of the configured RAM (20_memory R63, R73). -/
theorem resolve_ram_lt {e : BankEnv} {view : View} {kind : AccessKind} {addr : Word} {i : Nat}
    (h : resolve e view kind addr = .ram i) : i < e.ramSize.bytes := by
  have hbase : ∀ {j}, Target.ram addr.toNat = .ram j → j < e.ramSize.bytes := by
    rintro _ ⟨⟩; exact addr_lt_ramBytes _ _
  unfold resolve at h
  simp only at h
  split at h
  · cases h
  split at h
  · split at h
    · exact absurd h (romTarget_ne_ram nofun)
    · exact hbase h
  split at h
  · split at h
    · exact absurd h (romTarget_ne_ram nofun)
    split at h
    · exact absurd h (romTarget_ne_ram nofun)
    · exact hbase h
  split at h
  · exact absurd h (romTarget_ne_ram nofun)
  split at h
  · rename_i hwindow
    obtain ⟨hlow, hhigh, hselected⟩ := hwindow
    have hinside := extBank_inside hselected
    have hi := Target.ram.inj h
    omega
  · exact hbase h

/-- A write inside the RAM keeps every listed cell inside it. -/
theorem ramInside_write {m : List Host.Cell} {u : Nat → Byte} {i : Nat} (v : Byte) (h : ramInside m = true)
    (hi : i < Config.ramSize.bytes) : ramInside (Memory.write u m i v) = true := by
  unfold ramInside at h ⊢
  rw [List.all_eq_true] at h ⊢
  intro c hc
  rcases mem_memory_write hc with rfl | hmem
  · exact decide_eq_true hi
  · exact h c hmem

theorem StorageInv.setRam {s : State} {i : Nat} (h : StorageInv s) (v : Byte) (hi : i < Config.ramSize.bytes) :
    StorageInv (s.setRam i v) :=
  { h with
    mem_wf := memory_write_wf i v h.mem_wf
    mem_inside := ramInside_write v h.mem_inside hi }

theorem StorageInv.muxSet {s : State} (h : StorageInv s) (mux : MuxId) (source : Nat) (mask : Byte) :
    StorageInv (muxSet mux source mask s) := by
  obtain ⟨hjoy, hconsol⟩ := muxSet_wf mux source mask s h.joy_wf h.consol_wf
  have hmem : (Machine.muxSet mux source mask s).mem = s.mem := by cases mux <;> rfl
  exact ⟨hmem ▸ h.mem_wf, hjoy, hconsol, hmem ▸ h.mem_inside⟩

/-! ### Audio timelines -/

/-- `AudioInv` speaks of the queue, the total and the synthesis state, and a later total keeps it. -/
theorem AudioInv.of_eq {s t : State} (h : AudioInv s) (hqueue : t.pokey.audioQueue = s.pokey.audioQueue)
    (htotal : s.antic.totalCycles ≤ t.antic.totalCycles) (hsynth : t.synth = s.synth) : AudioInv t where
  queue_sorted := hqueue ▸ h.queue_sorted
  queue_past := fun e he => (h.queue_past e (hqueue ▸ he)).trans htotal
  pending_future := hsynth ▸ h.pending_future
  history_length := hsynth ▸ h.history_length

/-- A queue entry made now comes after every other one (10_state R48). -/
theorem AudioInv.append {s : State} (h : AudioInv s) {p : Pokey} {r : Fin 9} {v : Byte} (hqueue : p.audioQueue =
    s.pokey.audioQueue ++ [{ timestamp := s.antic.totalCycles, reg := r, value := v }]) : AudioInv (s.setPokey p) :=
  { h with
    queue_sorted := by
      rw [State.setPokey_pokey, hqueue, List.pairwise_append]
      refine ⟨h.queue_sorted, List.pairwise_singleton _ _, fun e he f hf => ?_⟩
      rw [List.mem_singleton.mp hf]
      exact h.queue_past e he
    queue_past := fun e he => by
      rw [State.setPokey_pokey, hqueue] at he
      rcases List.mem_append.mp he with hold | hnew
      · exact h.queue_past e hold
      · rw [List.mem_singleton.mp hnew]; exact Nat.le_refl _ }

/-- The drain times every entry at the next synthesis cycle or later (45_pokey_synthesis R340). -/
theorem AudioInv.audioDrain {s : State} (h : AudioInv s) : AudioInv (audioDrain s) where
  queue_sorted := List.Pairwise.nil
  queue_past := nofun
  pending_future := fun w hw => by
    rcases List.mem_append.mp hw with hold | hnew
    · exact h.pending_future w hold
    · obtain ⟨e, -, rfl⟩ := List.mem_map.mp hnew
      exact Nat.le_max_left _ _
  history_length := h.history_length

/-- An entry changes a register of the synthesis state and neither its timeline nor its history. -/
theorem applyWrite_timeline (y : Synth) (w : TimedWrite) :
    (applyWrite y w).cycle = y.cycle ∧ (applyWrite y w).pending = y.pending ∧
      (applyWrite y w).history = y.history := by
  unfold applyWrite
  split <;> exact ⟨rfl, rfl, rfl⟩

theorem foldl_applyWrite_timeline (ws : List TimedWrite) (y : Synth) :
    (ws.foldl applyWrite y).cycle = y.cycle ∧ (ws.foldl applyWrite y).pending = y.pending ∧
      (ws.foldl applyWrite y).history = y.history := by
  induction ws generalizing y with
  | nil => exact ⟨rfl, rfl, rfl⟩
  | cons w ws ih =>
    obtain ⟨hcycle, hpending, hhistory⟩ := applyWrite_timeline y w
    obtain ⟨ihcycle, ihpending, ihhistory⟩ := ih (applyWrite y w)
    exact ⟨ihcycle.trans hcycle, ihpending.trans hpending, ihhistory.trans hhistory⟩

/-- A synthesis cycle takes the entries due at it, computes one level and goes on to the next cycle
(45_pokey_synthesis R340, R352). -/
theorem synthStep_timeline (p : PolyBits) (y : Synth) :
    (synthStep p y).cycle = y.cycle + 1 ∧
      (synthStep p y).pending = y.pending.filter (fun w => !decide (w.due = y.cycle)) ∧
      (synthStep p y).history.length = y.history.length + 1 := by
  obtain ⟨hcycle, hpending, hhistory⟩ := foldl_applyWrite_timeline
    (y.pending.filter fun w => decide (w.due = y.cycle))
    { y with pending := y.pending.filter fun w => !decide (w.due = y.cycle) }
  exact ⟨congrArg (· + 1) hcycle, hpending, congrArg (·.length + 1) hhistory⟩

theorem AudioInv.synthCycle {s : State} (h : AudioInv s) : AudioInv (synthCycle s) := by
  obtain ⟨hcycle, hpending, hhistory⟩ := synthStep_timeline (polyBits s.synth.cycle) s.synth
  refine ⟨h.queue_sorted, h.queue_past, fun w hw => ?_, hhistory.trans (h.history_length ▸ hcycle.symm)⟩
  obtain ⟨hold, hdue⟩ := List.mem_filter.mp (hpending ▸ hw)
  have hfuture := h.pending_future w hold
  have hlater : w.due ≠ s.synth.cycle := by simpa using hdue
  exact hcycle.trans_le (by omega)

end Sys2Proof.Machine
end

section
/-! PROOFS. The machine's invariant: it holds at power-on and every step keeps it. -/

namespace Sys2Proof.Machine

/-! ### Power-on -/

/-- Settles O8: the counters are 0, the lists are empty, and the registers hold their power-on values. -/
theorem resetMeetsInv : Obligations.ResetMeetsInv where
  timing := timingInv_resetAntic Antic.zero
  registers := ⟨by decide, rfl, rfl, rfl⟩
  storage := ⟨reset_mem_wf, rfl, rfl, rfl⟩
  audio := ⟨List.Pairwise.nil, nofun, nofun, rfl⟩

/-! ### One part of the state replaced

A clause of the invariant that does not speak of the replaced part carries over; the hypotheses are what the other
clauses ask of the new part. -/

/-- The invariant speaks of no field of the host's side: inputs, outputs, free values and the cartridge's own state. -/
theorem Inv.withHost {s : State} (h : Inv s) (is : List Input) (o : Output) (n c : Nat) :
    Inv { s with inputs := is, out := o, draws := n, cart := c } where
  timing := h.timing
  registers := h.registers.of_eq rfl rfl rfl
  storage := h.storage.of_eq rfl rfl rfl
  audio := h.audio.of_eq rfl (Nat.le_refl _) rfl

theorem Inv.setAntic {s : State} (h : Inv s) {a : Antic} (htiming : TimingInv a)
    (htotal : a.totalCycles = s.antic.totalCycles) : Inv (s.setAntic a) where
  timing := htiming
  registers := h.registers.of_eq rfl rfl rfl
  storage := h.storage.of_eq rfl rfl rfl
  audio := h.audio.of_eq rfl (Nat.le_of_eq htotal.symm) rfl

theorem Inv.setGtia {s : State} (h : Inv s) {g : Gtia} (hlow : ∀ i : Fin 16, g.collisions[i] &&& 0xf0 = 0) :
    Inv (s.setGtia g) where
  timing := h.timing
  registers := { h.registers with collisions_low := hlow }
  storage := h.storage.of_eq rfl rfl rfl
  audio := h.audio.of_eq rfl (Nat.le_refl _) rfl

theorem Inv.setPokey {s : State} (h : Inv s) {p : Pokey} (hskstat : p.skstat ||| 0x0c = 0xff)
    (haudio : AudioInv (s.setPokey p)) : Inv (s.setPokey p) where
  timing := h.timing
  registers := { h.registers with skstat_ones := hskstat }
  storage := h.storage.of_eq rfl rfl rfl
  audio := haudio

theorem Inv.setPia {s : State} (h : Inv s) {p : Pia} (hpactl : p.pactl &&& 0xc0 = 0) (hpbctl : p.pbctl &&& 0xc0 = 0) :
    Inv (s.setPia p) where
  timing := h.timing
  registers := { h.registers with pactl_low := hpactl, pbctl_low := hpbctl }
  storage := h.storage.of_eq rfl rfl rfl
  audio := h.audio.of_eq rfl (Nat.le_refl _) rfl

theorem Inv.setRam {s : State} (h : Inv s) {i : Nat} (v : Byte) (hi : i < Config.ramSize.bytes) :
    Inv (s.setRam i v) where
  timing := h.timing
  registers := h.registers.of_eq rfl rfl rfl
  storage := h.storage.setRam v hi
  audio := h.audio.of_eq rfl (Nat.le_refl _) rfl

/-! ### Inputs -/

theorem Inv.tick {b : Bool} {s t : State} (h : Inv s) (ht : tick b s = .next t) : Inv t := by
  have honly := tick_anticOnly ht
  obtain ⟨htiming, htotal⟩ := tick_timing ht h.timing
  exact {
    timing := htiming
    registers := h.registers.of_eq (by rw [honly.gtia]) (by rw [honly.pokey]) honly.pia
    storage := h.storage.of_eq honly.mem honly.joyMux honly.consolMux
    audio := h.audio.of_eq (by rw [honly.pokey]) htotal honly.synth }

/-- A control register that keeps its value or takes bits 5:0 of a write has bits 7:6 at 0. -/
theorem control_low_of_written {new old v : Byte} (hold : old &&& 0xc0 = 0) (h : new = v &&& 0x3f ∨ new = old) :
    new &&& 0xc0 = 0 := by
  rcases h with rfl | rfl
  · exact control_low v
  · exact hold

theorem Inv.busWriteResult {addr : Word} {v : Byte} {s t : State} (h : Inv s) (ht : BusWriteResult addr v s t) :
    Inv t := by
  cases ht with
  | gtia g hcollisions =>
    refine h.setGtia fun i => ?_
    rw [hcollisions]
    split
    · simp
    · exact h.registers.collisions_low i
  | antic a hwritten hnmist => exact h.setAntic (hwritten.timing hnmist h.timing) hwritten.total
  | pokey p hskstat hqueue =>
    refine h.setPokey (hskstat ▸ h.registers.skstat_ones) ?_
    rcases hqueue with hsame | ⟨r, happend⟩
    · exact h.audio.of_eq hsame (Nat.le_refl _) rfl
    · exact h.audio.append happend
  | pia p hpactl hpbctl =>
    exact h.setPia (control_low_of_written h.registers.pactl_low hpactl)
      (control_low_of_written h.registers.pbctl_low hpbctl)
  | cart c => exact h.withHost s.inputs s.out s.draws c
  | ignored => exact h
  | ram i htarget => exact h.setRam v (resolve_ram_lt htarget)

/-- An IRQ request changes IRQST and the IRQ result alone (44_pokey_registers R332, R334). -/
theorem Inv.requestIrq {s : State} (h : Inv s) (bit : Nat) (raised : Bool) : Inv (requestIrq bit raised s) :=
  (h.setPokey (p := { s.pokey with irqst := withBit s.pokey.irqst bit false }) h.registers.skstat_ones
    (h.audio.of_eq rfl (Nat.le_refl _) rfl)).withHost s.inputs { s.out with irq := raised } s.draws s.cart

theorem Inv.keyDown {s : State} (h : Inv s) (code : BitVec 6) (shift ctl : Bool) : Inv (keyDown code shift ctl s) := by
  unfold Machine.keyDown
  refine Inv.requestIrq (h.setPokey ?skstat ?audio) _ _
  case skstat => exact skstatPress_ones _ h.registers.skstat_ones
  case audio => exact h.audio.of_eq rfl (Nat.le_refl _) rfl

theorem Inv.keyPress {s : State} (h : Inv s) (key : HostKey) (pressed shift ctl : Bool) :
    Inv (keyPress key pressed shift ctl s) := by
  unfold Machine.keyPress
  split
  · exact h
  · split
    · exact h.keyDown ..
    · exact h.setPokey (skstatRelease_ones h.registers.skstat_ones) (h.audio.of_eq rfl (Nat.le_refl _) rfl)

theorem Inv.irqEvent {s : State} (h : Inv s) (source : IrqSource) : Inv (irqEvent source s) := by
  unfold Machine.irqEvent
  split
  · exact h.requestIrq _ _
  · exact h

theorem Inv.collide {s : State} (h : Inv s) (i : Fin 16) (m : Byte) : Inv (collide i m s) := by
  refine h.setGtia fun j => ?_
  by_cases hij : i = j
  · subst hij
    simpa using collision_low_or (h.registers.collisions_low i) m
  · have hne : i.val ≠ j.val := fun heq => hij (Fin.ext heq)
    simpa [Vector.getElem_set, hne] using h.registers.collisions_low j

theorem Inv.muxSet {s : State} (h : Inv s) (mux : MuxId) (source : Nat) (mask : Byte) :
    Inv (muxSet mux source mask s) := by
  have hstorage := h.storage.muxSet mux source mask
  cases mux
  case joystick => exact ⟨h.timing, h.registers.of_eq rfl rfl rfl, hstorage, h.audio.of_eq rfl (Nat.le_refl _) rfl⟩
  case console => exact ⟨h.timing, h.registers.of_eq rfl rfl rfl, hstorage, h.audio.of_eq rfl (Nat.le_refl _) rfl⟩

theorem Inv.audioDrain {s : State} (h : Inv s) : Inv (audioDrain s) where
  timing := h.timing
  registers := h.registers.of_eq rfl rfl rfl
  storage := h.storage.of_eq rfl rfl rfl
  audio := h.audio.audioDrain

theorem Inv.synthCycle {s : State} (h : Inv s) : Inv (synthCycle s) where
  timing := h.timing
  registers := h.registers.of_eq rfl rfl rfl
  storage := h.storage.of_eq rfl rfl rfl
  audio := h.audio.synthCycle

theorem Inv.machineReset {s : State} (h : Inv s) : Inv (machineReset s) :=
  (h.setAntic (timingInv_resetAntic s.antic) rfl).withHost s.inputs s.out s.draws _

/-- Every input keeps the invariant. -/
theorem Inv.runInput {i : Input} {s t : State} (h : Inv s) (ht : runInput i s = .next t) : Inv t := by
  cases i
  case tick b => exact h.tick ht
  case write addr v => exact h.busWriteResult (busWrite_result ht)
  case read addr =>
    rw [busRead_outputOnly ht]
    exact h.withHost s.inputs t.out t.draws s.cart
  case keyPress key pressed shift ctl => cases ht; exact h.keyPress ..
  case irqEvent source => cases ht; exact h.irqEvent _
  case collide i m => cases ht; exact h.collide ..
  case setTrigger i pressed => cases ht; exact h.setGtia h.registers.collisions_low
  case muxSet mux source mask => cases ht; exact h.muxSet ..
  case audioDrain => cases ht; exact h.audioDrain
  case synthCycle => cases ht; exact h.synthCycle
  case machineReset => cases ht; exact h.machineReset

/-- Settles O9: a step is an idle tick or an input, run on the state with the outputs at rest. -/
theorem stepKeepsInv : Obligations.StepKeepsInv := by
  intro s t h ht
  rcases step_cases ht with ⟨-, htick⟩ | ⟨i, rest, -, hinput⟩
  · exact Inv.tick (h.withHost [] Output.quiet (s.draws + 1) s.cart) htick
  · exact Inv.runInput (h.withHost rest Output.quiet s.draws s.cart) hinput

end Sys2Proof.Machine
end

section
/-! PROOFS. What every access to memory resolves to, and what the bus then reads and writes outside the I/O page. -/

namespace Sys2Proof.Machine

/-! ### Bank resolution, region by region -/

theorem resolve_of_ioPage (e : BankEnv) (view : View) (kind : AccessKind) {addr : Word}
    (h : 0xd000 ≤ addr.toNat ∧ addr.toNat ≤ 0xd7ff) : resolve e view kind addr = .io := if_pos h

/-- From 0xc000 on, the I/O page apart, port B bit 0 shows the OS ROM (20_memory R65). -/
theorem resolve_of_osRegion (e : BankEnv) (view : View) (kind : AccessKind) {addr : Word}
    (hio : ¬(0xd000 ≤ addr.toNat ∧ addr.toNat ≤ 0xd7ff)) (h : 0xc000 ≤ addr.toNat) :
    resolve e view kind addr =
      if e.portb.getLsbD 0 then romTarget kind (.osRom (addr.toNat - 0xc000)) else .ram addr.toNat :=
  (if_neg hio).trans (if_pos h)

/-- 0xa000..0xbfff shows an enabled cartridge, else BASIC (20_memory R66, R67). -/
theorem resolve_of_cartRegion (e : BankEnv) (view : View) (kind : AccessKind) {addr : Word}
    (h : 0xa000 ≤ addr.toNat ∧ addr.toNat ≤ 0xbfff) :
    resolve e view kind addr =
      if e.cartEnabled then romTarget kind .cart
      else if e.basicPresent && !e.portb.getLsbD 1 then romTarget kind (.basic (addr.toNat - 0xa000))
      else .ram addr.toNat :=
  (if_neg (by omega)).trans ((if_neg (by omega)).trans (if_pos h))

/-- 0x4000..0x7fff shows the selected extended bank, which hides the self-test ROM (20_memory R68, R73). -/
theorem resolve_of_window (e : BankEnv) (view : View) (kind : AccessKind) {addr : Word}
    (h : 0x4000 ≤ addr.toNat ∧ addr.toNat ≤ 0x7fff) :
    resolve e view kind addr =
      if extSelected e view then .ram (0x10000 + extBank e * 0x4000 + (addr.toNat - 0x4000))
      else if 0x5000 ≤ addr.toNat ∧ addr.toNat ≤ 0x57ff ∧ e.portb.getLsbD 0 ∧ e.portb.getLsbD 7 = false then
        romTarget kind (.osRom (addr.toNat - 0x4000))
      else .ram addr.toNat := by
  have hio : ¬(0xd000 ≤ addr.toNat ∧ addr.toNat ≤ 0xd7ff) := by omega
  have hos : ¬0xc000 ≤ addr.toNat := by omega
  have hcart : ¬(0xa000 ≤ addr.toNat ∧ addr.toNat ≤ 0xbfff) := by omega
  unfold resolve selftestVisible
  simp only [hio, hos, hcart, if_false, h, true_and]
  cases extSelected e view
  case true => simp
  case false =>
    simp only [Bool.not_false, Bool.and_true, Bool.and_eq_true, Bool.not_eq_true', Bool.false_eq_true, if_false]
    split
    · rw [show addr.toNat - 0x5000 + 0x1000 = addr.toNat - 0x4000 by omega]
    · rfl

/-- Below the window, and between it and the cartridge region, there is only RAM (20_memory R63). -/
theorem resolve_of_plainRegion (e : BankEnv) (view : View) (kind : AccessKind) {addr : Word}
    (h : addr.toNat < 0x4000 ∨ 0x8000 ≤ addr.toNat ∧ addr.toNat < 0xa000) :
    resolve e view kind addr = .ram addr.toNat := by
  unfold resolve
  rw [if_neg (by omega), if_neg (by omega), if_neg (by omega), if_neg (by omega), if_neg (by omega)]

/-- The regions of the address space that 20_memory R63 tells apart. -/
theorem addr_region (addr : Word) :
    (0xd000 ≤ addr.toNat ∧ addr.toNat ≤ 0xd7ff) ∨
    (¬(0xd000 ≤ addr.toNat ∧ addr.toNat ≤ 0xd7ff) ∧ 0xc000 ≤ addr.toNat) ∨
    (0xa000 ≤ addr.toNat ∧ addr.toNat ≤ 0xbfff) ∨
    (0x4000 ≤ addr.toNat ∧ addr.toNat ≤ 0x7fff) ∨
    (addr.toNat < 0x4000 ∨ 0x8000 ≤ addr.toNat ∧ addr.toNat < 0xa000) := by
  omega

/-- What an address resolves to for both kinds of access: the I/O page, RAM at its own address, a byte of the selected
extended bank, or read-only storage, whose writes the sink takes (20_memory R63, R74). -/
inductive ResolvesTo (e : BankEnv) (view : View) (addr : Word) : Prop where
  | ioPage (hio : 0xd000 ≤ addr.toNat ∧ addr.toNat ≤ 0xd7ff) (h : ∀ kind, resolve e view kind addr = .io)
  | ownRam (hio : ¬(0xd000 ≤ addr.toNat ∧ addr.toNat ≤ 0xd7ff))
      (h : ∀ kind, resolve e view kind addr = .ram addr.toNat)
  | bankRam (hwindow : 0x4000 ≤ addr.toNat ∧ addr.toNat ≤ 0x7fff)
      (h : ∀ kind, resolve e view kind addr = .ram (0x10000 + extBank e * 0x4000 + (addr.toNat - 0x4000)))
  | readOnly (hio : ¬(0xd000 ≤ addr.toNat ∧ addr.toNat ≤ 0xd7ff)) {t : Target}
      (h : ∀ kind, resolve e view kind addr = romTarget kind t) (hne : t ≠ .io) (hram : ∀ i, t ≠ .ram i)

theorem resolvesTo (e : BankEnv) (view : View) (addr : Word) : ResolvesTo e view addr := by
  rcases addr_region addr with hio | ⟨hio, hos⟩ | hcart | hwindow | hplain
  · exact .ioPage hio fun kind => resolve_of_ioPage e view kind hio
  · have h := fun kind => resolve_of_osRegion e view kind hio hos
    split at h
    · exact .readOnly hio h nofun nofun
    · exact .ownRam hio h
  · have h := fun kind => resolve_of_cartRegion e view kind hcart
    split at h
    · exact .readOnly (by omega) h nofun nofun
    split at h
    · exact .readOnly (by omega) h nofun nofun
    · exact .ownRam (by omega) h
  · have h := fun kind => resolve_of_window e view kind hwindow
    split at h
    · exact .bankRam hwindow h
    split at h
    · exact .readOnly (by omega) h nofun nofun
    · exact .ownRam (by omega) h
  · exact .ownRam (by omega) fun kind => resolve_of_plainRegion e view kind hplain

theorem resolve_eq_io_iff {e : BankEnv} {view : View} {kind : AccessKind} {addr : Word} :
    resolve e view kind addr = .io ↔ 0xd000 ≤ addr.toNat ∧ addr.toNat ≤ 0xd7ff := by
  cases resolvesTo e view addr with
  | ioPage hio h => simp [h, hio]
  | ownRam hio h => simp [h, hio]
  | bankRam hwindow h =>
    rw [h]
    exact ⟨nofun, by omega⟩
  | readOnly hio h hne hram =>
    rw [h]
    cases kind
    case read => exact ⟨fun heq => absurd heq hne, fun hpage => absurd hpage hio⟩
    case write => exact ⟨nofun, fun hpage => absurd hpage hio⟩

/-- RAM is reached at the address itself or, through the window, at the same offset of an extended bank
(20_memory R63, R73). -/
theorem resolve_ram_index {e : BankEnv} {view : View} {kind : AccessKind} {addr : Word} {i : Nat}
    (h : resolve e view kind addr = .ram i) :
    i = addr.toNat ∨ 0x4000 ≤ addr.toNat ∧ addr.toNat ≤ 0x7fff ∧ 0x10000 ≤ i ∧ i % 0x4000 = addr.toNat % 0x4000 := by
  cases resolvesTo e view addr with
  | ioPage _ hkind => cases (hkind kind).symm.trans h
  | ownRam _ hkind => cases (hkind kind).symm.trans h; exact .inl rfl
  | bankRam hwindow hkind => have hi := Target.ram.inj ((hkind kind).symm.trans h); omega
  | readOnly _ hkind _ hram => exact absurd ((hkind kind).symm.trans h) (romTarget_ne_ram hram)

/-- The byte a write reaches is the byte a read of the address gives (20_memory R70, R71). -/
theorem resolve_read_of_resolve_write {e : BankEnv} {view : View} {addr : Word} {i : Nat}
    (h : resolve e view .write addr = .ram i) : resolve e view .read addr = .ram i := by
  cases resolvesTo e view addr with
  | ioPage _ hkind | ownRam _ hkind | bankRam _ hkind => exact (hkind .read).trans ((hkind .write).symm.trans h)
  | readOnly _ hkind => cases (hkind .write).symm.trans h

/-! ### Bank resolution in the words of the statements -/

theorem extendedWindow_eq_extSelected (e : BankEnv) (view : View) : extendedWindow e view = extSelected e view := by
  unfold extendedWindow extSelected
  cases e.ramSize <;> cases view <;> simp

theorem extendedBank_eq_extBank {e : BankEnv} {view : View} (h : extSelected e view = true) :
    extendedBank e = extBank e := by
  unfold extSelected at h
  unfold extendedBank extBank
  cases hz : e.ramSize <;> simp only [hz] at h ⊢
  case k64 => cases h
  case k128 | k320 => simp [BitVec.extractLsb'_toNat, Nat.shiftRight_eq_div_pow]

theorem romTarget_eq_ite (kind : AccessKind) (t : Target) : romTarget kind t = if kind = .read then t else .sink := by
  cases kind <;> rfl

/-- An input pin of port B reads 1, an output pin its latch (10_state R51). -/
theorem getLsbD_portbEff (p : Pia) (b : Fin 8) :
    (portbEff p).getLsbD b = (!p.portbDdr.getLsbD b || p.portbOut.getLsbD b) := by
  simp only [portbEff, BitVec.getLsbD_or, BitVec.getLsbD_and, BitVec.getLsbD_not, b.isLt, decide_true, Bool.true_and]
  cases p.portbDdr.getLsbD b
  case false => simp
  case true => simp

theorem targetByte_eq_storedByte (s : State) (addr : Word) (t : Target) : targetByte s addr t = storedByte s addr t := by
  cases t <;> rfl

/-! ### The bus outside the I/O page -/

theorem highByte_toNat (addr : Word) : (highByte addr).toNat = addr.toNat / 256 := by
  have h := addr.isLt
  simp only [highByte, BitVec.extractLsb'_toNat, Nat.shiftRight_eq_div_pow]
  omega

section
variable {addr : Word} (hio : ¬(0xd000 ≤ addr.toNat ∧ addr.toNat ≤ 0xd7ff))
include hio

theorem decodeWrite_of_not_ioPage (v : Byte) : decodeWrite addr v = .error .notIoPage := by
  have hpage := highByte_toNat addr
  unfold decodeWrite
  split
  case h_9 => rfl
  all_goals omega

theorem decodeRead_of_not_ioPage : decodeRead addr = .error .notIoPage := by
  have hpage := highByte_toNat addr
  unfold decodeRead
  split
  case h_9 => rfl
  all_goals omega

theorem busWrite_of_not_ioPage (v : Byte) (s : State) : busWrite addr v s = .next (memWriteCpu s addr v) := by
  simp only [busWrite, decodeWrite_of_not_ioPage hio]

theorem busRead_of_not_ioPage (s : State) : busRead addr s = .next (readResult s (memReadCpu s addr)) := by
  simp only [busRead, decodeRead_of_not_ioPage hio]
  rfl

end

/-! ### The statements -/

/-- Settles O40: `resolve` region by region, the RAM indices it answers, and the reads that go through it. -/
theorem bankResolution : Obligations.BankResolution := by
  refine ⟨?resolution, ?indices, ?reads⟩
  case resolution =>
    intro e view kind addr
    simp only [← romTarget_eq_ite]
    rcases addr_region addr with hio | ⟨hio, hos⟩ | hcart | hwindow | hplain
    · rw [resolve_of_ioPage e view kind hio, if_pos hio]
    · rw [resolve_of_osRegion e view kind hio hos, if_neg hio, if_pos hos]
    · rw [if_neg (by omega), if_neg (by omega), if_pos hcart.1, resolve_of_cartRegion e view kind hcart]
      simp only [Bool.and_eq_true, Bool.not_eq_true']
    · rw [if_neg (by omega), if_neg (by omega), if_neg (by omega), if_neg (by omega),
        resolve_of_window e view kind hwindow, extendedWindow_eq_extSelected]
      split
      · rename_i hselected
        rw [extendedBank_eq_extBank hselected, Nat.mul_comm]
      · simp only [Nat.lt_succ_iff]
    · rw [if_neg (by omega), if_neg (by omega), if_neg (by omega), if_pos (by omega),
        resolve_of_plainRegion e view kind hplain]
  case indices =>
    intro e view kind addr
    refine ⟨resolve_eq_io_iff, fun i h => ⟨resolve_ram_lt h, fun hne => ?_⟩⟩
    exact (resolve_ram_index h).resolve_left hne
  case reads =>
    intro s addr
    have hantic : memReadAntic s addr = storedByte s addr (resolve s.bankEnv .antic .read addr) :=
      targetByte_eq_storedByte s addr _
    refine ⟨rfl, rfl, rfl, getLsbD_portbEff s.pia, hantic, fun hlow hhigh => ?_, fun hio => ?_⟩
    · rw [hantic, resolve_of_ioPage _ _ _ ⟨hlow, hhigh⟩]
      rfl
    · rw [busRead_of_not_ioPage hio, memReadCpu, targetByte_eq_storedByte]

theorem resolve_eq_of_extSelected_eq {e : BankEnv} {view view' : View} (h : extSelected e view = extSelected e view')
    (kind : AccessKind) (addr : Word) : resolve e view kind addr = resolve e view' kind addr := by
  unfold resolve selftestVisible
  rw [h]

theorem resolve_eq_of_not_window (e : BankEnv) (view view' : View) (kind : AccessKind) {addr : Word}
    (h : ¬(0x4000 ≤ addr.toNat ∧ addr.toNat ≤ 0x7fff)) : resolve e view kind addr = resolve e view' kind addr := by
  rcases addr_region addr with hio | ⟨hio, hos⟩ | hcart | hwindow | hplain
  · rw [resolve_of_ioPage e view kind hio, resolve_of_ioPage e view' kind hio]
  · rw [resolve_of_osRegion e view kind hio hos, resolve_of_osRegion e view' kind hio hos]
  · rw [resolve_of_cartRegion e view kind hcart, resolve_of_cartRegion e view' kind hcart]
  · exact absurd hwindow h
  · rw [resolve_of_plainRegion e view kind hplain, resolve_of_plainRegion e view' kind hplain]

/-- The views select the extended bank by different bits on the 128 KB machine alone (20_memory R73). -/
theorem extSelected_views_differ {e : BankEnv} (h : extSelected e .cpu ≠ extSelected e .antic) :
    e.ramSize = .k128 ∧ e.portb.getLsbD 4 ≠ e.portb.getLsbD 5 := by
  unfold extSelected at h
  cases hz : e.ramSize <;> simp only [hz] at h
  case k64 | k320 => exact absurd rfl h
  case k128 => exact ⟨rfl, fun heq => h (congrArg _ heq)⟩

/-- Settles O41: outside the window, and where both views select alike, they resolve alike. -/
theorem viewsDifferOnlyInWindow : Obligations.ViewsDifferOnlyInWindow := by
  intro e kind addr hne
  have hwindow : 0x4000 ≤ addr.toNat ∧ addr.toNat ≤ 0x7fff := by
    by_contra hout
    exact hne (resolve_eq_of_not_window e .cpu .antic kind hout)
  have hselect : extSelected e .cpu ≠ extSelected e .antic := fun heq =>
    hne (resolve_eq_of_extSelected_eq heq kind addr)
  exact ⟨hwindow.1, hwindow.2, extSelected_views_differ hselect⟩

theorem memWriteCpu_of_resolve_ram {s : State} {addr : Word} {i : Nat}
    (h : resolve s.bankEnv .cpu .write addr = .ram i) (v : Byte) : memWriteCpu s addr v = s.setRam i v := by
  simp only [memWriteCpu, h]

theorem memWriteCpu_of_resolve_not_ram {s : State} {addr : Word}
    (h : ∀ i, resolve s.bankEnv .cpu .write addr ≠ .ram i) (v : Byte) : memWriteCpu s addr v = s :=
  (memWriteCpu_eq s addr v).resolve_right fun ⟨i, hi, _⟩ => h i hi

/-- A read of the address just written returns the byte (20_memory R70, R71). -/
theorem memReadCpu_setRam {s : State} {addr : Word} {i : Nat} (h : resolve s.bankEnv .cpu .write addr = .ram i)
    (v : Byte) : memReadCpu (s.setRam i v) addr = v := by
  have hread : resolve (s.setRam i v).bankEnv .cpu .read addr = .ram i := resolve_read_of_resolve_write h
  simp [memReadCpu, hread, targetByte]

/-- Settles O42: outside the I/O page a bus write is `memWriteCpu`, which reaches one RAM byte or nothing. -/
theorem cpuWriteReachesItsByte : Obligations.CpuWriteReachesItsByte := by
  intro addr v s hio
  refine ⟨_, busWrite_of_not_ioPage hio v s, ?_⟩
  by_cases hram : ∃ i, resolve s.bankEnv .cpu .write addr = .ram i
  · obtain ⟨i, hi⟩ := hram
    rw [memWriteCpu_of_resolve_ram hi]
    refine ⟨rfl, fun j hj => ?_, fun hnone => absurd hi (hnone i)⟩
    cases hi.symm.trans hj
    refine ⟨fun a => ram_setRam s i a v, ?_⟩
    rw [busRead_of_not_ioPage hio, memReadCpu_setRam hi]
  · rw [memWriteCpu_of_resolve_not_ram fun i hi => hram ⟨i, hi⟩]
    exact ⟨rfl, fun i hi => absurd ⟨i, hi⟩ hram, fun _ => rfl⟩

end Sys2Proof.Machine
end

section
/-! PROOFS. The frame of the register accesses: one chip for a write, the data output and the free values for a read. -/

namespace Sys2Proof.Machine

/-! ### What a register access can do -/

/-- What a write to a register of page `page` can make of `s`: the chip of the page changes, or nothing
(20_memory R76). -/
inductive PageWritten (s : State) : Byte → State → Prop where
  | gtia (g : Gtia) : PageWritten s 0xd0 (s.setGtia g)
  | pokey (p : Pokey) : PageWritten s 0xd2 (s.setPokey p)
  | pia (p : Pia) : PageWritten s 0xd3 (s.setPia p)
  | antic (a : Antic) (written : AnticWritten s.antic a) : PageWritten s 0xd4 (s.setAntic a)
  | cart (c : Nat) : PageWritten s 0xd5 (s.setCart c)
  | ignored (page : Byte) : PageWritten s page s

/-- What the register access `i` at address `a` in a row with match `m` can make of `s`: a read returns a byte or a draw, a
write reaches its page (20_memory R75, R76). -/
inductive AccessResult (i : Instr) (a m : Word) (s : State) : State → Prop where
  | read (encoded : encode i = readBytes a) (v : Byte) : AccessResult i a m s (readResult s v)
  | draw (encoded : encode i = readBytes a) : AccessResult i a m s (drawResult s)
  | write (v : Byte) (encoded : encode i = writeBytes a v) {t : State} (written : PageWritten s (highByte m) t) :
      AccessResult i a m s t

/-- Every register access has one of these results; the registers are grouped by what they do. -/
theorem exec_accessResult {i : Instr} {a m k : Word} {s t : State} (hrow : i.busRow = some (a, m, k))
    (h : exec i s = .next t) : AccessResult i a m s t := by
  cases i with
  | blank | jmp | jvb | mode2 | mode3 | mode4 | mode5 | mode6 | mode7 | mode8 | mode9 | modeA | modeB | modeC | modeD
  | modeE | modeF => cases hrow
  | rPenh | rPenv | rPot0 | rPot1 | rPot2 | rPot3 | rPot4 | rPot5 | rPot6 | rPot7 | rAllpot | rRandom | rSerin =>
    cases hrow; cases h; exact .draw rfl
  | rAntic0Ff | rAntic1Ff | rAntic2Ff | rAntic3Ff | rAntic4Ff | rAntic5Ff | rAntic6Ff | rAntic7Ff | rAntic8Ff | rAntic9Ff
  | rAnticaFf | rVcount | rAnticeFf | rNmist
  | rM0pf | rM1pf | rM2pf | rM3pf | rP0pf | rP1pf | rP2pf | rP3pf | rM0pl | rM1pl | rM2pl | rM3pl | rP0pl | rP1pl | rP2pl
  | rP3pl | rTrig0 | rTrig1 | rTrig2 | rTrig3 | rPal | rGtia15Ff | rGtia16Ff | rGtia17Ff | rGtia18Ff | rGtia19Ff
  | rGtia1aFf | rGtia1bFf | rGtia1cFf | rGtia1dFf | rGtia1eFf | rConsol
  | rKbcode | rPokeybFf | rPokeycFf | rIrqst | rSkstat | rPorta | rPortb | rPactl | rPbctl
  | rUnmappedD1 | rUnmappedD6 | rUnmappedD7 | rCartctl =>
    cases hrow; cases h; exact .read rfl _
  | wAnticUnused6 | wAnticUnused8 | wAnticUnusedb | wAnticUnusedc | wAnticUnusedd | wPokeyUnusedc
  | wUnmappedD1 | wUnmappedD6 | wUnmappedD7 =>
    cases hrow; cases h; exact .write _ rfl (.ignored _)
  | wHposp0 | wHposp1 | wHposp2 | wHposp3 | wHposm0 | wHposm1 | wHposm2 | wHposm3 | wSizep0 | wSizep1 | wSizep2 | wSizep3
  | wSizem | wGrafp0 | wGrafp1 | wGrafp2 | wGrafp3 | wGrafm | wColpm0 | wColpm1 | wColpm2 | wColpm3 | wColpf0 | wColpf1
  | wColpf2 | wColpf3 | wColbk | wPrior | wVdelay | wGractl | wHitclr | wConsolW =>
    cases hrow; cases h; exact .write _ rfl (.gtia _)
  | wAudf1 | wAudc1 | wAudf2 | wAudc2 | wAudf3 | wAudc3 | wAudf4 | wAudc4 | wAudctl | wStimer | wSkres | wPotgo | wSerout
  | wIrqen | wSkctl =>
    cases hrow; cases h; exact .write _ rfl (.pokey _)
  | wPorta | wPortb | wPactl | wPbctl => cases hrow; cases h; exact .write _ rfl (.pia _)
  | wDmactl | wChactl | wDlistl | wDlisth | wHscrol | wVscrol | wPmbase | wChbase | wWsync | wNmien | wNmires =>
    cases hrow; cases h; exact .write _ rfl (.antic _ rfl)
  | wCartctl => cases hrow; cases h; exact .write _ rfl (.cart _)

theorem readBytes_ne_writeBytes (a b : Word) (v : Byte) : readBytes a ≠ writeBytes b v := by
  simp [readBytes, writeBytes]

/-- A write changes no chip but the one of its page (20_memory R76). -/
theorem PageWritten.frame {s t : State} {page : Byte} (h : PageWritten s page t) : t = { s with
      antic := if page = 0xd4 then t.antic else s.antic
      gtia := if page = 0xd0 then t.gtia else s.gtia
      pokey := if page = 0xd2 then t.pokey else s.pokey
      pia := if page = 0xd3 then t.pia else s.pia
      cart := if page = 0xd5 then t.cart else s.cart } := by
  cases h with
  | gtia | pokey | pia | antic | cart => rfl
  | ignored => simp only [ite_self]

theorem PageWritten.sameTime {s t : State} {page : Byte} (h : PageWritten s page t) : SameTime s.antic t.antic := by
  cases h with
  | antic a hwritten => exact hwritten.sameTime
  | gtia | pokey | pia | cart | ignored => exact .of_eq rfl

theorem PageWritten.mem {s t : State} {page : Byte} (h : PageWritten s page t) : t.mem = s.mem := by
  cases h <;> rfl

/-- Settles O43: the three results of a register access. -/
theorem accessTouchesOnlyItsChip : Obligations.AccessTouchesOnlyItsChip := by
  intro i s t a m k hrow h
  cases exec_accessResult hrow h with
  | read hread x =>
    exact ⟨.inl hread, fun v hwrite => absurd (hread.symm.trans hwrite) (readBytes_ne_writeBytes a a v),
      fun _ => ⟨x, s.draws, rfl, .inl rfl⟩, rfl, rfl, rfl, fun _ => rfl⟩
  | draw hread =>
    exact ⟨.inl hread, fun v hwrite => absurd (hread.symm.trans hwrite) (readBytes_ne_writeBytes a a v),
      fun _ => ⟨_, _, rfl, .inr rfl⟩, rfl, rfl, rfl, fun _ => rfl⟩
  | write v hwrite hwritten =>
    obtain ⟨htotal, hcycle, hline⟩ := hwritten.sameTime
    exact ⟨.inr ⟨v, hwrite⟩, fun _ _ => hwritten.frame,
      fun hread => absurd (hread.symm.trans hwrite) (readBytes_ne_writeBytes a a v),
      hcycle, hline, htotal, fun b => congrArg (Memory.read unlistedByte · b) hwritten.mem⟩

/-! ### Bus reads -/

/-- `i` reads a register at address `addr`. -/
def IsReadAt (addr : Word) (i : Instr) : Prop :=
  encode i = readBytes addr ∧ ∃ m k, i.busRow = some (addr, m, k)

/-- A bus read that selects a register runs the read of that register (20_memory R75). -/
theorem decodeRead_isReadAt {addr : Word} {i : Instr} (hi : decodeRead addr = .ok i) : IsReadAt addr i := by
  have gtia : ∀ n : Fin 32, IsReadAt addr (gtiaReads[n] addr) := by intro n; fin_cases n <;> exact ⟨rfl, _, _, rfl⟩
  have pokey : ∀ n : Fin 16, IsReadAt addr (pokeyReads[n] addr) := by intro n; fin_cases n <;> exact ⟨rfl, _, _, rfl⟩
  have pia : ∀ n : Fin 4, IsReadAt addr (piaReads[n] addr) := by intro n; fin_cases n <;> exact ⟨rfl, _, _, rfl⟩
  have antic : ∀ n : Fin 16, IsReadAt addr (anticReads[n] addr) := by intro n; fin_cases n <;> exact ⟨rfl, _, _, rfl⟩
  unfold decodeRead at hi
  split at hi
  · cases hi; exact gtia _
  · cases hi; exact ⟨rfl, _, _, rfl⟩
  · cases hi; exact pokey _
  · cases hi; exact pia _
  · cases hi; exact antic _
  · cases hi; exact ⟨rfl, _, _, rfl⟩
  · cases hi; exact ⟨rfl, _, _, rfl⟩
  · cases hi; exact ⟨rfl, _, _, rfl⟩
  · cases hi

/-- Every bus read answers a next state. -/
theorem busRead_completes (addr : Word) (s : State) : ∃ t, busRead addr s = .next t := by
  unfold busRead
  split
  · exact exec_completes _ s
  · exact ⟨_, rfl⟩

/-- Settles O44: a bus read is a register read, whose results are those of O43, or returns a byte of storage. -/
theorem busReadsHaveNoSideEffect : Obligations.BusReadsHaveNoSideEffect := by
  intro addr s
  obtain ⟨t, ht⟩ := busRead_completes addr s
  rcases busRead_cases ht with ⟨i, hi, hexec⟩ | ⟨-, rfl⟩
  · obtain ⟨hread, m, k, hrow⟩ := decodeRead_isReadAt hi
    cases exec_accessResult hrow hexec with
    | read _ x => exact ⟨x, s.draws, ht, .inl rfl⟩
    | draw => exact ⟨_, _, ht, .inr rfl⟩
    | write v hwrite => exact absurd (hread.symm.trans hwrite) (readBytes_ne_writeBytes addr addr v)
  · exact ⟨_, _, ht, .inl rfl⟩

/-! ### The cartridge page -/

/-- Settles O38: without a cartridge the write stores the cartridge's own state back. -/
theorem cartridgePageResults : Obligations.CartridgePageResults := by
  intro addr v s
  have hwrite : exec (.wCartctl addr v) s =
      .next (s.setCart (if Config.cartPresent then Config.cartWrite s.cart addr v else s.cart)) := rfl
  refine ⟨?write, rfl⟩
  rw [hwrite]
  split <;> rfl

end Sys2Proof.Machine
end

section
/-! PROOFS. The decoder and the encoder undo each other: a display-list instruction by the fields of its first byte, a
bus access by the register that its address selects. -/

namespace Sys2Proof.Machine

/-! ### Addresses in two bytes -/

theorem lo16_highByte_lowByte (w : Word) : lo16 (highByte w) (lowByte w) = w :=
  BitVec.extractLsb'_append_extractLsb'

theorem addrBytes_lo16 (h l : Byte) : addrBytes (lo16 h l) = [l, h] :=
  congrArg₂ (fun x y => [x, y]) BitVec.extractLsb'_append_eq_right BitVec.extractLsb'_append_eq_left

/-! ### The fields of an instruction byte -/

theorem blankByte_fields (dli : Bool) (count : BitVec 3) :
    modeNibble (blankByte dli count) = 0 ∧ dliBit (blankByte dli count) = dli ∧
      blankCount (blankByte dli count) = count := by
  revert dli count; decide

theorem jumpByte_fields (dli jvb : Bool) (ignored : BitVec 2) :
    modeNibble (jumpByte dli jvb ignored) = 1 ∧ dliBit (jumpByte dli jvb ignored) = dli ∧
      bit6 (jumpByte dli jvb ignored) = jvb ∧ ignoredBits (jumpByte dli jvb ignored) = ignored := by
  revert dli jvb ignored; decide

theorem modeByte_fields (m : BitVec 4) (dli lms vs hs : Bool) :
    modeNibble (modeByte m dli lms vs hs) = m ∧ dliBit (modeByte m dli lms vs hs) = dli ∧
      bit6 (modeByte m dli lms vs hs) = lms ∧ vscrolBit (modeByte m dli lms vs hs) = vs ∧
      hscrolBit (modeByte m dli lms vs hs) = hs := by
  revert m dli lms vs hs; decide

theorem blankByte_of_fields {b : Byte} (h : modeNibble b = 0) : blankByte (dliBit b) (blankCount b) = b := by
  revert b; decide

theorem jumpByte_of_fields {b : Byte} (h : modeNibble b = 1) : jumpByte (dliBit b) (bit6 b) (ignoredBits b) = b := by
  revert b; decide

theorem modeByte_of_fields (b : Byte) :
    modeByte (modeNibble b) (dliBit b) (bit6 b) (vscrolBit b) (hscrolBit b) = b := by
  revert b; decide

/-! ### Instruction classes -/

section
variable {b0 : Byte}

/-- The class of `MODE` decodes the bytes (30_encoding R101). -/
theorem decodeDl_of_modeNibble {m : BitVec 4} (h : modeNibble b0 = m) (b1 b2 : Byte) :
    decodeDl b0 b1 b2 = dlClasses[m.toFin] b0 b1 b2 := by
  subst h
  rfl

theorem decodeDl_of_blank (h : modeNibble b0 = 0) (b1 b2 : Byte) : decodeDl b0 b1 b2 = decodeBlank b0 b1 b2 :=
  decodeDl_of_modeNibble h b1 b2

theorem decodeDl_of_jump (h : modeNibble b0 = 1) (b1 b2 : Byte) : decodeDl b0 b1 b2 = decodeJump b0 b1 b2 :=
  decodeDl_of_modeNibble h b1 b2

theorem dlLength_of_blank (h : modeNibble b0 = 0) : dlLength b0 = 1 := if_pos h

theorem dlLength_of_jump (h : modeNibble b0 = 1) : dlLength b0 = 3 := by
  rw [dlLength, h]
  rfl

end

/-- `mk` builds the display mode lines of the class `MODE = m` (30_encoding R101). -/
structure ModeLine (m : BitVec 4) (mk : Bool → Option Word → Bool → Bool → Instr) : Prop where
  ne_blank : m ≠ 0
  ne_jump : m ≠ 1
  decoded : dlClasses[m.toFin] = decodeMode mk
  encoded : ∀ dli lms vs hs, encode (mk dli lms vs hs) = modeBytes m dli lms vs hs
  displayList : ∀ dli lms vs hs, (mk dli lms vs hs).source = .displayList

/-- Every `MODE` but 0 and 1 is a display mode (30_encoding R101). -/
theorem exists_modeLine {m : BitVec 4} (h0 : m ≠ 0) (h1 : m ≠ 1) : ∃ mk, ModeLine m mk := by
  obtain ⟨n⟩ := m
  fin_cases n
  · exact absurd rfl h0
  · exact absurd rfl h1
  all_goals exact ⟨_, h0, h1, rfl, fun _ _ _ _ => rfl, fun _ _ _ _ => rfl⟩

section
variable {m : BitVec 4} {mk : Bool → Option Word → Bool → Bool → Instr} {b0 : Byte}

theorem ModeLine.decodeDl_eq (hmk : ModeLine m mk) (h : modeNibble b0 = m) (b1 b2 : Byte) :
    decodeDl b0 b1 b2 = decodeMode mk b0 b1 b2 := by
  rw [decodeDl_of_modeNibble h, hmk.decoded]

theorem ModeLine.dlLength_eq (hmk : ModeLine m mk) (h : modeNibble b0 = m) :
    dlLength b0 = if bit6 b0 then 3 else 1 := by
  subst h
  rw [dlLength, if_neg hmk.ne_blank, if_neg hmk.ne_jump]

end

/-! ### Every byte decodes -/

theorem encode_decodeBlank {b0 : Byte} (h : modeNibble b0 = 0) (b1 b2 : Byte) :
    encode (decodeBlank b0 b1 b2) = [b0] :=
  congrArg ([·]) (blankByte_of_fields h)

theorem encode_decodeJump {b0 : Byte} (h : modeNibble b0 = 1) (b1 b2 : Byte) :
    encode (decodeJump b0 b1 b2) = [b0, b1, b2] := by
  have hbyte := jumpByte_of_fields h
  unfold decodeJump
  split
  next hjvb => rw [encode, addrBytes_lo16, ← hjvb, hbyte]
  next hjmp => rw [encode, addrBytes_lo16, ← Bool.eq_false_of_not_eq_true hjmp, hbyte]

theorem modeBytes_of_fields (b0 b1 b2 : Byte) :
    modeBytes (modeNibble b0) (dliBit b0) (lmsOperand b0 b1 b2) (vscrolBit b0) (hscrolBit b0) =
      if bit6 b0 then [b0, b1, b2] else [b0] := by
  have hbyte := modeByte_of_fields b0
  unfold lmsOperand
  split
  next hlms => rw [modeBytes, Option.isSome_some, ← hlms, hbyte, Option.map_some, Option.getD_some, addrBytes_lo16]
  next hlms =>
    rw [modeBytes, Option.isSome_none, ← Bool.eq_false_of_not_eq_true hlms, hbyte]
    rfl

/-- Settles O2, class by class of `MODE` (30_encoding R101): blank lines, jumps and the display modes. -/
theorem everyDisplayListByteDecodes : Obligations.EveryDisplayListByteDecodes := by
  intro b0 b1 b2
  by_cases h0 : modeNibble b0 = 0
  · rw [decodeDl_of_blank h0, dlLength_of_blank h0, encode_decodeBlank h0]
    exact ⟨rfl, rfl⟩
  by_cases h1 : modeNibble b0 = 1
  · rw [decodeDl_of_jump h1, dlLength_of_jump h1, encode_decodeJump h1]
    refine ⟨rfl, ?_⟩
    unfold decodeJump
    split <;> rfl
  obtain ⟨mk, hmk⟩ := exists_modeLine h0 h1
  rw [hmk.decodeDl_eq rfl, hmk.dlLength_eq rfl]
  refine ⟨?_, hmk.displayList ..⟩
  rw [decodeMode, hmk.encoded, modeBytes_of_fields]
  split <;> rfl

/-! ### Display-list instructions -/

theorem decodeDlBytes_of_one {b0 : Byte} (h : dlLength b0 = 1) (rest : List Byte) :
    decodeDlBytes (b0 :: rest) = .ok (decodeDl b0 0 0, rest) := if_pos h

theorem decodeDlBytes_of_three {b0 : Byte} (h : dlLength b0 = 3) (b1 b2 : Byte) (rest : List Byte) :
    decodeDlBytes (b0 :: b1 :: b2 :: rest) = .ok (decodeDl b0 b1 b2, rest) := if_neg (by rw [h]; decide)

theorem decodeDlBytes_blank (dli : Bool) (count : BitVec 3) (rest : List Byte) :
    decodeDlBytes (blankByte dli count :: rest) = .ok (.blank dli count, rest) := by
  obtain ⟨hmode, hdli, hcount⟩ := blankByte_fields dli count
  refine (decodeDlBytes_of_one (dlLength_of_blank hmode) rest).trans ?_
  rw [decodeDl_of_blank hmode, decodeBlank, hdli, hcount]

/-- The instruction of a jump byte is JVB or JMP by bit 6 (41_antic_display_list R173, R174). -/
theorem decodeDlBytes_jump (dli jvb : Bool) (ignored : BitVec 2) (target : Word) (rest : List Byte) :
    decodeDlBytes (jumpByte dli jvb ignored :: addrBytes target ++ rest) =
      .ok (if jvb then .jvb dli ignored target else .jmp dli ignored target, rest) := by
  obtain ⟨hmode, hdli, hjvb, hignored⟩ := jumpByte_fields dli jvb ignored
  refine (decodeDlBytes_of_three (dlLength_of_jump hmode) _ _ rest).trans ?_
  rw [decodeDl_of_jump hmode, decodeJump, hdli, hjvb, hignored, lo16_highByte_lowByte]

theorem ModeLine.decode_encode {m : BitVec 4} {mk : Bool → Option Word → Bool → Bool → Instr}
    (hmk : ModeLine m mk) (dli : Bool) (lms : Option Word) (vs hs : Bool) (rest : List Byte) :
    decodeDlBytes (encode (mk dli lms vs hs) ++ rest) = .ok (mk dli lms vs hs, rest) := by
  obtain ⟨hmode, hdli, hlms, hvs, hhs⟩ := modeByte_fields m dli lms.isSome vs hs
  have hdecode := hmk.decodeDl_eq hmode
  have hlength := hmk.dlLength_eq hmode
  rw [hlms] at hlength
  simp only [decodeMode, lmsOperand, hdli, hlms, hvs, hhs] at hdecode
  rw [hmk.encoded]
  cases lms with
  | none => exact (decodeDlBytes_of_one hlength rest).trans (by rw [hdecode]; rfl)
  | some a =>
    refine (decodeDlBytes_of_three hlength (lowByte a) (highByte a) rest).trans ?_
    rw [hdecode, lo16_highByte_lowByte]
    rfl

/-- A display-list instruction decodes from its encoding. -/
theorem decode_encode_displayList {i : Instr} (hrow : i.busRow = none) (rest : List Byte) :
    decodeDlBytes (encode i ++ rest) = .ok (i, rest) := by
  cases i with
  | blank dli count => exact decodeDlBytes_blank dli count rest
  | jmp dli ignored target => exact decodeDlBytes_jump dli false ignored target rest
  | jvb dli ignored target => exact decodeDlBytes_jump dli true ignored target rest
  | mode2 | mode3 | mode4 | mode5 | mode6 | mode7 | mode8 | mode9 | modeA | modeB | modeC | modeD | modeE | modeF =>
    exact ModeLine.decode_encode ⟨by decide, by decide, rfl, fun _ _ _ _ => rfl, fun _ _ _ _ => rfl⟩ ..
  | _ => cases hrow

/-! ### The register that an address selects -/

/-- The address bits that select a register of a page: the page and the low `n` bits (30_encoding R108). -/
def selectMask (n : Nat) : Word := 0xff#8 ++ (BitVec.allOnes n).setWidth 8

/-- The address of register `r` of page `page` with every mirror bit 0. -/
def registerWord (page : Byte) {n : Nat} (r : BitVec n) : Word := page ++ r.setWidth 8

theorem and_selectMask (n : Nat) (addr : Word) :
    addr &&& selectMask n = registerWord (highByte addr) (addr.extractLsb' 0 n) := by
  have hhigh : highByte addr &&& 0xff#8 = highByte addr := BitVec.and_allOnes
  have hlow : lowByte addr &&& (BitVec.allOnes n).setWidth 8 = (addr.extractLsb' 0 n).setWidth 8 := by
    refine BitVec.eq_of_getLsbD_eq fun i hi => ?_
    simp [lowByte, hi, Bool.and_comm]
  calc addr &&& selectMask n
    _ = (highByte addr ++ lowByte addr) &&& selectMask n := by rw [← lo16, lo16_highByte_lowByte]
    _ = registerWord (highByte addr) (addr.extractLsb' 0 n) := by
      rw [selectMask, BitVec.and_append, hhigh, hlow, registerWord]

/-- An address selects what the address of its register selects. -/
theorem eq_of_and_selectMask {n : Nat} (hn : n ≤ 8) {addr m : Word} (hsel : addr &&& selectMask n = m) :
    highByte addr = highByte m ∧ addr.extractLsb' 0 n = m.extractLsb' 0 n := by
  rw [and_selectMask] at hsel
  subst hsel
  constructor
  · exact BitVec.extractLsb'_append_eq_left.symm
  · rw [registerWord, BitVec.extractLsb'_append_eq_of_add_le (by omega), BitVec.extractLsb'_setWidth_of_le (by omega),
      BitVec.extractLsb'_eq_self]

/-! ### The pages of the I/O space -/

/-- Page `page` of the I/O space selects by the low `n` address bits one of `writes` and one of `reads`, each with a row
of its own in the opcode table (30_encoding R108). The fields of every given page have the same proof, which stands with
the field. -/
structure RegisterPage (page : Byte) (n : Nat) (writes : BitVec n → Word → Byte → Instr)
    (reads : BitVec n → Word → Instr) : Prop where
  bits_le : n ≤ 8 := by decide
  decodeWrite_eq : ∀ addr, highByte addr = page → ∀ v,
      decodeWrite addr v = .ok (writes (addr.extractLsb' 0 n) addr v) := by
    intro addr h v
    unfold decodeWrite
    rw [h]
    rfl
  decodeRead_eq : ∀ addr, highByte addr = page → decodeRead addr = .ok (reads (addr.extractLsb' 0 n) addr) := by
    intro addr h
    unfold decodeRead
    rw [h]
    rfl
  write_row : ∀ r addr v, encode (writes r addr v) = writeBytes addr v ∧
      (writes r addr v).busRow = some (addr, registerWord page r, selectMask n) := by
    rintro ⟨r⟩ addr v
    fin_cases r <;> exact ⟨rfl, rfl⟩
  read_row : ∀ r addr, encode (reads r addr) = readBytes addr ∧
      (reads r addr).busRow = some (addr, registerWord page r, selectMask n) := by
    rintro ⟨r⟩ addr
    fin_cases r <;> exact ⟨rfl, rfl⟩

theorem gtiaPage : RegisterPage 0xd0 5 (gtiaWrites[·.toFin]) (gtiaReads[·.toFin]) := {}

theorem unmappedD1Page : RegisterPage 0xd1 0 (fun _ => .wUnmappedD1) (fun _ => .rUnmappedD1) := {}

theorem pokeyPage : RegisterPage 0xd2 4 (pokeyWrites[·.toFin]) (pokeyReads[·.toFin]) := {}

theorem piaPage : RegisterPage 0xd3 2 (piaWrites[·.toFin]) (piaReads[·.toFin]) := {}

theorem anticPage : RegisterPage 0xd4 4 (anticWrites[·.toFin]) (anticReads[·.toFin]) := {}

theorem cartPage : RegisterPage 0xd5 0 (fun _ => .wCartctl) (fun _ => .rCartctl) := {}

theorem unmappedD6Page : RegisterPage 0xd6 0 (fun _ => .wUnmappedD6) (fun _ => .rUnmappedD6) := {}

theorem unmappedD7Page : RegisterPage 0xd7 0 (fun _ => .wUnmappedD7) (fun _ => .rUnmappedD7) := {}

theorem wellFormed_iff_of_busRow {i : Instr} {a m k : Word} (hrow : i.busRow = some (a, m, k)) :
    i.wellFormed = true ↔ a &&& k = m := by
  simp only [Instr.wellFormed, hrow, beq_iff_eq]

section
variable {page : Byte} {n : Nat} {writes : BitVec n → Word → Byte → Instr} {reads : BitVec n → Word → Instr}
  (hp : RegisterPage page n writes reads) {addr m : Word}
include hp

theorem RegisterPage.decodeWrite_of_select (hsel : addr &&& selectMask n = m) (hm : highByte m = page) (v : Byte) :
    decodeWrite addr v = .ok (writes (m.extractLsb' 0 n) addr v) := by
  obtain ⟨hpage, hreg⟩ := eq_of_and_selectMask hp.bits_le hsel
  rw [hp.decodeWrite_eq addr (hpage.trans hm), hreg]

theorem RegisterPage.decodeRead_of_select (hsel : addr &&& selectMask n = m) (hm : highByte m = page) :
    decodeRead addr = .ok (reads (m.extractLsb' 0 n) addr) := by
  obtain ⟨hpage, hreg⟩ := eq_of_and_selectMask hp.bits_le hsel
  rw [hp.decodeRead_eq addr (hpage.trans hm), hreg]

/-- Every address of the page is a mirror of one register (30_encoding R108). -/
theorem RegisterPage.selects (hpage : highByte addr = page) (v : Byte) :
    (∃ i, decodeWrite addr v = .ok i ∧ i.wellFormed = true ∧ encode i = writeBytes addr v) ∧
    (∃ i, decodeRead addr = .ok i ∧ i.wellFormed = true ∧ encode i = readBytes addr) := by
  have hselect : addr &&& selectMask n = registerWord page (addr.extractLsb' 0 n) := hpage ▸ and_selectMask n addr
  obtain ⟨hwrite, hwriteRow⟩ := hp.write_row (addr.extractLsb' 0 n) addr v
  obtain ⟨hread, hreadRow⟩ := hp.read_row (addr.extractLsb' 0 n) addr
  exact ⟨⟨_, hp.decodeWrite_eq addr hpage v, (wellFormed_iff_of_busRow hwriteRow).mpr hselect, hwrite⟩,
    ⟨_, hp.decodeRead_eq addr hpage, (wellFormed_iff_of_busRow hreadRow).mpr hselect, hread⟩⟩

end

/-- The pages of the I/O space, each with its chip (20_memory R75, R76). -/
theorem ioPage_selects {addr : Word} (hio : 0xd000 ≤ addr.toNat ∧ addr.toNat ≤ 0xd7ff) (v : Byte) :
    (∃ i, decodeWrite addr v = .ok i ∧ i.wellFormed = true ∧ encode i = writeBytes addr v) ∧
    (∃ i, decodeRead addr = .ok i ∧ i.wellFormed = true ∧ encode i = readBytes addr) := by
  have hbyte := highByte_toNat addr
  have hpage : highByte addr = 0xd0 ∨ highByte addr = 0xd1 ∨ highByte addr = 0xd2 ∨ highByte addr = 0xd3 ∨
      highByte addr = 0xd4 ∨ highByte addr = 0xd5 ∨ highByte addr = 0xd6 ∨ highByte addr = 0xd7 := by
    bv_omega
  rcases hpage with h | h | h | h | h | h | h | h
  · exact gtiaPage.selects h v
  · exact unmappedD1Page.selects h v
  · exact pokeyPage.selects h v
  · exact piaPage.selects h v
  · exact anticPage.selects h v
  · exact cartPage.selects h v
  · exact unmappedD6Page.selects h v
  · exact unmappedD7Page.selects h v

/-- Settles O3: inside the I/O page by its eight pages, outside it because no page matches. -/
theorem ioPageSelectsRegisters : Obligations.IoPageSelectsRegisters := by
  intro addr v
  split
  next hio => exact ioPage_selects hio v
  next hio => exact ⟨decodeWrite_of_not_ioPage hio v, decodeRead_of_not_ioPage hio⟩

/-! ### Register accesses -/

theorem decodeBusBytes_write {addr : Word} {v : Byte} {i : Instr} (h : decodeWrite addr v = .ok i) (rest : List Byte) :
    decodeBusBytes (writeBytes addr v ++ rest) = .ok (i, rest) := by
  have hframe : decodeBusBytes (writeBytes addr v ++ rest) =
      (decodeWrite (lo16 (highByte addr) (lowByte addr)) v).map (·, rest) := rfl
  rw [hframe, lo16_highByte_lowByte, h]
  rfl

theorem decodeBusBytes_read {addr : Word} {i : Instr} (h : decodeRead addr = .ok i) (rest : List Byte) :
    decodeBusBytes (readBytes addr ++ rest) = .ok (i, rest) := by
  have hframe : decodeBusBytes (readBytes addr ++ rest) =
      (decodeRead (lo16 (highByte addr) (lowByte addr))).map (·, rest) := rfl
  rw [hframe, lo16_highByte_lowByte, h]
  rfl

/-- A register access at an address of its own row decodes from its encoding; the registers are grouped by page. -/
theorem decode_encode_bus {i : Instr} {a m k : Word} (hrow : i.busRow = some (a, m, k)) (hsel : a &&& k = m)
    (rest : List Byte) : decodeBusBytes (encode i ++ rest) = .ok (i, rest) := by
  cases i with
  | blank | jmp | jvb | mode2 | mode3 | mode4 | mode5 | mode6 | mode7 | mode8 | mode9 | modeA | modeB | modeC | modeD
  | modeE | modeF => cases hrow
  | wDmactl | wChactl | wDlistl | wDlisth | wHscrol | wVscrol | wAnticUnused6 | wPmbase | wAnticUnused8 | wChbase
  | wWsync | wAnticUnusedb | wAnticUnusedc | wAnticUnusedd | wNmien | wNmires =>
    cases hrow; exact decodeBusBytes_write (anticPage.decodeWrite_of_select hsel rfl _) rest
  | rAntic0Ff | rAntic1Ff | rAntic2Ff | rAntic3Ff | rAntic4Ff | rAntic5Ff | rAntic6Ff | rAntic7Ff | rAntic8Ff
  | rAntic9Ff | rAnticaFf | rVcount | rPenh | rPenv | rAnticeFf | rNmist =>
    cases hrow; exact decodeBusBytes_read (anticPage.decodeRead_of_select hsel rfl) rest
  | wHposp0 | wHposp1 | wHposp2 | wHposp3 | wHposm0 | wHposm1 | wHposm2 | wHposm3 | wSizep0 | wSizep1 | wSizep2
  | wSizep3 | wSizem | wGrafp0 | wGrafp1 | wGrafp2 | wGrafp3 | wGrafm | wColpm0 | wColpm1 | wColpm2 | wColpm3
  | wColpf0 | wColpf1 | wColpf2 | wColpf3 | wColbk | wPrior | wVdelay | wGractl | wHitclr | wConsolW =>
    cases hrow; exact decodeBusBytes_write (gtiaPage.decodeWrite_of_select hsel rfl _) rest
  | rM0pf | rM1pf | rM2pf | rM3pf | rP0pf | rP1pf | rP2pf | rP3pf | rM0pl | rM1pl | rM2pl | rM3pl | rP0pl | rP1pl
  | rP2pl | rP3pl | rTrig0 | rTrig1 | rTrig2 | rTrig3 | rPal | rGtia15Ff | rGtia16Ff | rGtia17Ff | rGtia18Ff
  | rGtia19Ff | rGtia1aFf | rGtia1bFf | rGtia1cFf | rGtia1dFf | rGtia1eFf | rConsol =>
    cases hrow; exact decodeBusBytes_read (gtiaPage.decodeRead_of_select hsel rfl) rest
  | wAudf1 | wAudc1 | wAudf2 | wAudc2 | wAudf3 | wAudc3 | wAudf4 | wAudc4 | wAudctl | wStimer | wSkres | wPotgo
  | wPokeyUnusedc | wSerout | wIrqen | wSkctl =>
    cases hrow; exact decodeBusBytes_write (pokeyPage.decodeWrite_of_select hsel rfl _) rest
  | rPot0 | rPot1 | rPot2 | rPot3 | rPot4 | rPot5 | rPot6 | rPot7 | rAllpot | rKbcode | rRandom | rPokeybFf
  | rPokeycFf | rSerin | rIrqst | rSkstat =>
    cases hrow; exact decodeBusBytes_read (pokeyPage.decodeRead_of_select hsel rfl) rest
  | wPorta | wPortb | wPactl | wPbctl =>
    cases hrow; exact decodeBusBytes_write (piaPage.decodeWrite_of_select hsel rfl _) rest
  | rPorta | rPortb | rPactl | rPbctl =>
    cases hrow; exact decodeBusBytes_read (piaPage.decodeRead_of_select hsel rfl) rest
  | wUnmappedD1 => cases hrow; exact decodeBusBytes_write (unmappedD1Page.decodeWrite_of_select hsel rfl _) rest
  | rUnmappedD1 => cases hrow; exact decodeBusBytes_read (unmappedD1Page.decodeRead_of_select hsel rfl) rest
  | wUnmappedD6 => cases hrow; exact decodeBusBytes_write (unmappedD6Page.decodeWrite_of_select hsel rfl _) rest
  | rUnmappedD6 => cases hrow; exact decodeBusBytes_read (unmappedD6Page.decodeRead_of_select hsel rfl) rest
  | wUnmappedD7 => cases hrow; exact decodeBusBytes_write (unmappedD7Page.decodeWrite_of_select hsel rfl _) rest
  | rUnmappedD7 => cases hrow; exact decodeBusBytes_read (unmappedD7Page.decodeRead_of_select hsel rfl) rest
  | wCartctl => cases hrow; exact decodeBusBytes_write (cartPage.decodeWrite_of_select hsel rfl _) rest
  | rCartctl => cases hrow; exact decodeBusBytes_read (cartPage.decodeRead_of_select hsel rfl) rest

/-! ### The statements about the decoder -/

/-- Settles O1: an instruction with no row of the register table is a display-list instruction. -/
theorem decodeEncodeRoundTrip : Obligations.DecodeEncodeRoundTrip := by
  intro i rest hwf
  cases hrow : i.busRow with
  | none =>
    rw [Instr.source, hrow]
    exact decode_encode_displayList hrow rest
  | some row =>
    rw [Instr.source, hrow]
    exact decode_encode_bus hrow ((wellFormed_iff_of_busRow hrow).mp hwf) rest

/-- Settles O4: each word is the encoding of its instruction, which O1 decodes. -/
theorem sampleWordsDecode : Obligations.SampleWordsDecode := by
  have word : ∀ i : Instr, i.wellFormed = true → decode i.source (encode i) = .ok (i, []) := fun i hwf =>
    List.append_nil (encode i) ▸ decodeEncodeRoundTrip i [] hwf
  exact ⟨word (.blank true 7) rfl, word (.jmp false 3 0x1234) rfl, word (.jvb true 0 0x2000) rfl,
    word (.mode2 false (some 0x4000) false false) rfl, word (.modeF false none true true) rfl,
    word (.wWsync 0xd41a 0x55) rfl, word (.rVcount 0xd4fb) rfl, word (.rP3pl 0xd02f) rfl,
    word (.wIrqen 0xd20e 0x40) rfl, word (.wPortb 0xd3fd 0xfe) rfl, word (.rUnmappedD6 0xd600) rfl⟩

end Sys2Proof.Machine
end

section
/-! PROOFS. The steps of a tick one by one, in the words of the statements: the schedule, the NMI latch and fire, the
snapshot and the steals. -/

namespace Sys2Proof.Machine

/-! ### The line's schedule -/

/-- The well-formedness check is what 40_antic_timing R142 asks of a scan line's windows. -/
theorem admitted_iff_windowsOk {ws : List Window} : Admitted ws ↔ windowsOk ws = true := by
  simp only [Admitted, windowsOk, windowsOkFrom_iff, Nat.zero_le, true_and]

theorem scrollBits_eq_ofNat (v : Byte) : scrollBits v = BitVec.ofNat 4 (v.toNat % 16) := by
  revert v; decide

/-- `dma_key()` in the words of 40_antic_timing R141. -/
theorem dmaKey_eq (a : Antic) : dmaKey a = {
    dmactl := a.dmactl
    ir := a.ir
    hscrol := BitVec.ofNat 4 (a.hscrol.toNat % 16)
    lineIndex := a.scanLine - a.startScanLine
    firstLine := decide (a.scanLine - a.startScanLine = 0)
    dlFetched := decide (a.scanLine - a.startScanLine = 0 ∧ a.dmactl.getLsbD 5 = true)
    voffset := a.voffset } := by
  simp only [dmaKey, scrollBits_eq_ofNat, Bool.decide_and, Bool.decide_eq_true]

/-- Settles O50: an admitted schedule is one that passes the check its type carries, and the key is R141's. -/
theorem lineSchedule : Obligations.LineSchedule := by
  refine ⟨?admitted, ?configurable, ?windows, fun _ => rfl⟩
  case admitted => exact fun k => admitted_iff_windowsOk.mpr (Config.dmaSchedule.admitted k)
  case configurable =>
    intro table
    constructor
    · exact fun h => ⟨⟨table, fun k => admitted_iff_windowsOk.mp (h k)⟩, rfl⟩
    · rintro ⟨d, rfl⟩ k
      exact admitted_iff_windowsOk.mpr (d.admitted k)
  case windows =>
    intro table a
    simp only [scheduleWindows, visible_iff, dmaKey_eq]

/-! ### The NMI latch and fire -/

/-- Settles O51: a DLI is due where `isDli` says so (R153), and only off line 248. -/
theorem nmiLatch : Obligations.NmiLatch := by
  intro a
  have hdli : isDli a = true ↔ 8 ≤ a.scanLine ∧ a.scanLine < 248 ∧ a.ir.getLsbD 7 = true ∧
      a.scanLine + 1 = a.startScanLine + a.lineHeight := by
    simp only [isDli, Bool.and_eq_true, decide_eq_true_eq, visible_iff, and_assoc]
  simp only [checkNmi, hdli]

/-- Settles O52, by the request that is latched. -/
theorem nmiFire : Obligations.NmiFire := by
  intro s
  unfold fireIfDue
  cases s.antic.nmiPending with
  | none => rfl
  | some k =>
    by_cases hlate : 5 ≤ s.antic.cycle
    · simp only [if_pos hlate, if_neg (Nat.not_lt.mpr hlate)]
      cases k <;> rfl
    · simp only [if_neg hlate, if_pos (Nat.lt_of_not_le hlate)]

/-- The fire step outputs NMI only with the one status bit whose enable is set, and takes the request (R152, R154). -/
theorem fireIfDue_nmi {s : State} (hquiet : s.out.nmi = false) (h : (fireIfDue s).out.nmi = true) :
    ((fireIfDue s).antic.nmist = 0x80 ∧ (fireIfDue s).antic.nmien.getLsbD 7 = true ∨
      (fireIfDue s).antic.nmist = 0x40 ∧ (fireIfDue s).antic.nmien.getLsbD 6 = true) ∧
    (fireIfDue s).antic.nmiPending = none := by
  rw [nmiFire s] at h ⊢
  cases hpending : s.antic.nmiPending with
  | none =>
    rw [hpending] at h
    exact absurd (hquiet.symm.trans h) Bool.false_ne_true
  | some k =>
    simp only [hpending] at h ⊢
    split at h
    · exact absurd (hquiet.symm.trans h) Bool.false_ne_true
    · rename_i hlate
      rw [if_neg hlate]
      cases k
      case dli => exact ⟨.inl ⟨rfl, h⟩, rfl⟩
      case vbi => exact ⟨.inr ⟨rfl, h⟩, rfl⟩

/-! ### The snapshot -/

/-- Settles O54: `snapshotDue` is the condition of R155; where it fails, both fields keep their values. -/
theorem snapshotOncePerLine : Obligations.SnapshotOncePerLine := by
  intro vc s snap taken
  have hdue : snapshotDue vc s.antic = true ↔ 8 ≤ s.antic.scanLine ∧ s.antic.scanLine < 248 ∧
      s.antic.snapshotDone = false ∧ vc ≤ s.antic.cycle := by
    simp only [snapshotDue, Bool.and_eq_true, Bool.not_eq_true', decide_eq_true_eq, visible_iff, and_assoc]
  rw [← if_congr hdue rfl rfl]
  unfold snapshotIfDue
  cases snapshotDue vc s.antic
  case true => rw [Bool.or_true]; rfl
  case false => rw [Bool.or_false]; rfl

/-! ### The steals -/

/-- Settles O49: the whole result of step (8) is that of the walk over the windows. -/
theorem stealsChargeReachedWindows : Obligations.StealsChargeReachedWindows := by
  intro s h
  obtain ⟨charged, hsplit, hreached, hended, hleft, hcycle, hge, hle⟩ := stealWalk_spec (c := s.antic.cycle) h
  exact ⟨charged, _, _, hsplit, hreached, hended, hleft, hcycle, hge, hle, applySteals_eq s⟩

/-- The walk never goes back, on whatever windows (R145, R146). -/
theorem le_stealWalk (ws : List Window) (c : Nat) : c ≤ (stealWalk ws c).2 := by
  induction ws generalizing c with
  | nil => exact Nat.le_refl c
  | cons w ws ih =>
    unfold stealWalk
    split
    · exact (Nat.le_max_left _ _).trans (ih _)
    · exact Nat.le_refl c

/-- The walk moves only along a window that reaches past the counter (R145, R147). -/
theorem stealWalk_cycle_of_ended {ws : List Window} {c : Nat} (h : ∀ w ∈ ws, w.start ≤ c → w.start + w.len ≤ c) :
    (stealWalk ws c).2 = c := by
  induction ws with
  | nil => rfl
  | cons w ws ih =>
    obtain ⟨hw, hws⟩ := List.forall_mem_cons.mp h
    unfold stealWalk
    split
    · rename_i hc
      rw [Nat.max_eq_left (hw hc), ih hws]
    · rfl

/-- The windows left are those that start after the cycle reached (R145). -/
theorem stealWalk_left_eq_filter {ws : List Window} (h : windowsOk ws = true) (c : Nat) :
    (stealWalk ws c).1 = ws.filter fun w => decide ((stealWalk ws c).2 < w.start) := by
  obtain ⟨charged, hsplit, -, hended, hleft, -⟩ := stealWalk_spec (c := c) h
  have hcharged : charged.filter (fun w => decide ((stealWalk ws c).2 < w.start)) = [] := by
    refine List.filter_eq_nil_iff.mpr fun w hw => ?_
    have := hended w hw
    rw [decide_eq_true_eq]
    omega
  calc (stealWalk ws c).1
    _ = (charged ++ (stealWalk ws c).1).filter fun w => decide ((stealWalk ws c).2 < w.start) := by
      rw [List.filter_append, hcharged, List.nil_append,
        List.filter_eq_self.mpr fun w hw => decide_eq_true (hleft w hw)]
    _ = ws.filter fun w => decide ((stealWalk ws c).2 < w.start) := by rw [← hsplit]

end Sys2Proof.Machine
end

section
/-! PROOFS. The composition of a tick (40_antic_timing R130): what steps (1) to (4) hand on, what a tick without a
mode-line start keeps, and the instruction that a mode-line start runs. -/

namespace Sys2Proof.Machine

/-! ### A step that ticks -/

section
variable {s s0 : State} {b : Bool} (h : TicksOn s b s0)
include h

theorem ticksOn_step : step s = tick b s0 := by
  rcases h with ⟨rest, hinputs, rfl⟩ | ⟨hinputs, rfl, rfl⟩
  · exact step_of_inputs_cons hinputs
  · exact step_of_inputs_nil hinputs

theorem ticksOn_antic : s0.antic = s.antic := by
  rcases h with ⟨rest, -, rfl⟩ | ⟨-, -, rfl⟩ <;> rfl

theorem ticksOn_out : s0.out = Output.quiet := by
  rcases h with ⟨rest, -, rfl⟩ | ⟨-, -, rfl⟩ <;> rfl

theorem ticksOn_memReadAntic (addr : Word) : memReadAntic s0 addr = memReadAntic s addr := by
  rcases h with ⟨rest, -, rfl⟩ | ⟨-, -, rfl⟩ <;> rfl

end

/-! ### Steps (1) to (4) -/

/-- Step (1), whole (R131). -/
theorem advanceCounters_eq (a : Antic) : advanceCounters a = { a with
    cycle := if a.cycle = 113 then 0 else a.cycle + 1
    scanLine := if a.cycle = 113 then (a.scanLine + 1) % 312 else a.scanLine
    totalCycles := a.totalCycles + 1 } := by
  unfold advanceCounters
  by_cases hlast : a.cycle = 113
  · simp only [hlast, if_true]
  · have hinside : ¬a.cycle + 1 = 114 := by omega
    simp only [hlast, hinside, if_false]

/-- The raster, the stall request, NMIST and the registers that the bus writes are as before; the mode line, the windows,
the latched NMI and the snapshot flag may be new. -/
def LineStarted (a b : Antic) : Prop := b = { a with
  ir := b.ir, dlist := b.dlist, videoMemory := b.videoMemory, vscrolActive := b.vscrolActive, voffset := b.voffset
  startScanLine := b.startScanLine, lineHeight := b.lineHeight, nextScanLine := b.nextScanLine
  nmiPending := b.nmiPending, dmaWindows := b.dmaWindows, snapshotDone := b.snapshotDone }

theorem LineStarted.trans {a b c : Antic} (h : LineStarted a b) (k : LineStarted b c) : LineStarted a c := by
  unfold LineStarted at *
  rw [k, h]

section
variable {a b : Antic} (h : LineStarted a b)
include h

theorem LineStarted.cycle : b.cycle = a.cycle := by rw [h]
theorem LineStarted.scanLine : b.scanLine = a.scanLine := by rw [h]
theorem LineStarted.totalCycles : b.totalCycles = a.totalCycles := by rw [h]
theorem LineStarted.wsyncPending : b.wsyncPending = a.wsyncPending := by rw [h]

end

theorem lineStarted_snapshotDone (a : Antic) (d : Bool) : LineStarted a { a with snapshotDone := d } := rfl

theorem lineStarted_startScanLine (a : Antic) (l : Nat) : LineStarted a { a with startScanLine := l } := rfl

theorem ModeLineEffect.lineStarted {a b : Antic} (h : ModeLineEffect a b) : LineStarted a b := by
  rw [h.frame]
  rfl

theorem scheduleLine_lineStarted (s : State) : LineStarted s.antic (scheduleLine s).antic := rfl

/-- What steps (1) to (4) of a tick on `s` hand on to step (5): the counters advanced, the rest of ANTIC as it was inside a
line, and the line started at cycle 0. -/
structure ReachesTail (s u : State) : Prop where
  frame : LineStarted (advanceCounters s.antic) u.antic
  out : u.out = { s.out with descr := u.out.descr }
  inside : (advanceCounters s.antic).cycle ≠ 0 → u.antic = advanceCounters s.antic
  blank : (advanceCounters s.antic).cycle = 0 → visible u.antic.scanLine = false → u.antic.dmaWindows = []

/-- A line in vertical blank has no windows (R144). -/
theorem scheduleLine_windows_of_not_visible {s : State} (h : visible (scheduleLine s).antic.scanLine = false) :
    (scheduleLine s).antic.dmaWindows = [] :=
  if_neg (ne_true_of_eq_false h)

theorem tick_eq_tickTail {b : Bool} {s t : State} (h : tick b s = .next t) :
    ∃ u, t = tickTail Config.visibleCycle.val b u ∧ ReachesTail s u := by
  have hsnapshot := lineStarted_snapshotDone (advanceCounters s.antic) false
  rcases tick_cases h with ⟨hinside, rfl⟩ | ⟨hstart, -, rfl⟩ | ⟨hstart, -, u, hu, rfl⟩
  · exact ⟨_, rfl, lineStarted_snapshotDone _ _, rfl, fun _ => rfl, fun hstart => absurd hstart hinside⟩
  · exact ⟨_, rfl, hsnapshot.trans (scheduleLine_lineStarted _), rfl, fun hinside => absurd hstart hinside,
      fun _ => scheduleLine_windows_of_not_visible⟩
  · obtain ⟨heffect, -, hout⟩ := prepareModeLine_effect hu
    have hmode := (lineStarted_startScanLine _ _).trans heffect.lineStarted
    exact ⟨_, rfl, (hsnapshot.trans hmode).trans (scheduleLine_lineStarted u), hout,
      fun hinside => absurd hstart hinside, fun _ => scheduleLine_windows_of_not_visible⟩

/-- A tick stays on the line that its first cycle reaches. -/
theorem tick_scanLine {b : Bool} {s t : State} (h : tick b s = .next t) :
    t.antic.scanLine = (advanceCounters s.antic).scanLine := by
  obtain ⟨u, rfl, hu⟩ := tick_eq_tickTail h
  obtain ⟨-, hline, -⟩ := tickTail_fields Config.visibleCycle.val b u
  exact hline.trans hu.frame.scanLine

/-! ### ANTIC outside the mode-line start -/

/-- The mode line, the display-list pointers and the registers that the bus writes are as before; the raster, NMIST and
the latches of timing may differ. -/
def TimingOnly (a b : Antic) : Prop := b = { a with
  cycle := b.cycle, scanLine := b.scanLine, totalCycles := b.totalCycles, nmist := b.nmist
  wsyncPending := b.wsyncPending, nmiPending := b.nmiPending, dmaWindows := b.dmaWindows, snapshotDone := b.snapshotDone }

theorem TimingOnly.trans {a b c : Antic} (h : TimingOnly a b) (k : TimingOnly b c) : TimingOnly a c := by
  unfold TimingOnly at *
  rw [k, h]

theorem advanceCounters_timingOnly (a : Antic) : TimingOnly a (advanceCounters a) := by
  rw [advanceCounters_eq]
  rfl

theorem timingOnly_snapshotDone (a : Antic) (d : Bool) : TimingOnly a { a with snapshotDone := d } := rfl

theorem scheduleLine_timingOnly (s : State) : TimingOnly s.antic (scheduleLine s).antic := rfl

theorem snapshotIfDue_timingOnly (vc : Nat) (s : State) : TimingOnly s.antic (snapshotIfDue vc s).antic := rfl

theorem applySteals_timingOnly (s : State) : TimingOnly s.antic (applySteals s).antic := rfl

theorem applyWsync_timingOnly (b : Bool) (s : State) : TimingOnly s.antic (applyWsync b s).antic := by
  rw [(applyWsync_fields b s).1]
  rfl

theorem fireIfDue_timingOnly (s : State) : TimingOnly s.antic (fireIfDue s).antic := by
  rw [(fireIfDue_fields s).1]
  rfl

theorem tickTail_timingOnly (vc : Nat) (b : Bool) (s : State) : TimingOnly s.antic (tickTail vc b s).antic :=
  (((applyWsync_timingOnly b s).trans (fireIfDue_timingOnly _)).trans (snapshotIfDue_timingOnly vc _)).trans
    (applySteals_timingOnly _)

/-- The fire step writes no output but NMI. -/
theorem fireIfDue_out (s : State) : (fireIfDue s).out = { s.out with nmi := (fireIfDue s).out.nmi } := by
  rw [nmiFire s]
  split
  · rfl
  · split <;> rfl

theorem tickTail_descr (vc : Nat) (b : Bool) (s : State) : (tickTail vc b s).out.descr = s.out.descr :=
  calc (fireIfDue (applyWsync b s)).out.descr
    _ = (applyWsync b s).out.descr := by rw [fireIfDue_out]
    _ = s.out.descr := by rw [(applyWsync_fields b s).2]

/-- A tick that starts no mode line emits no descriptor and leaves the mode line as it is (R133, R134). -/
theorem tick_without_modeLine {b : Bool} {s t : State} (h : tick b s = .next t)
    (hnone : ¬((advanceCounters s.antic).cycle = 0 ∧ isNewModeLine (advanceCounters s.antic) = true)) :
    t.out.descr = s.out.descr ∧ TimingOnly s.antic t.antic := by
  have hadvance := advanceCounters_timingOnly s.antic
  rcases tick_cases h with ⟨-, rfl⟩ | ⟨-, -, rfl⟩ | ⟨hstart, hnew, -⟩
  · exact ⟨tickTail_descr .., hadvance.trans (tickTail_timingOnly ..)⟩
  · have hsnapshot := hadvance.trans (timingOnly_snapshotDone _ false)
    exact ⟨tickTail_descr .., (hsnapshot.trans (scheduleLine_timingOnly _)).trans (tickTail_timingOnly ..)⟩
  · exact absurd ⟨hstart, hnew⟩ hnone

/-! ### The composition of a tick -/

/-- Lines 8 to 247 on which a mode line starts (R133). -/
theorem isNewModeLine_iff {a : Antic} : isNewModeLine a = true ↔
    (8 ≤ a.scanLine ∧ a.scanLine < 248) ∧ (a.scanLine = 8 ∨ a.scanLine = a.nextScanLine) := by
  simp only [isNewModeLine, Bool.and_eq_true, Bool.or_eq_true, decide_eq_true_eq, visible_iff]

/-- While the next scan line is 8, a mode line starts on line 8 alone (41_antic_display_list R175). -/
theorem scanLine_of_isNewModeLine {a : Antic} (h : isNewModeLine a = true) (hnext : a.nextScanLine = 8) :
    a.scanLine = 8 := by
  obtain ⟨-, hline | hline⟩ := isNewModeLine_iff.mp h
  · exact hline
  · exact hline.trans hnext

/-- Settles O18, by the three ways a tick goes. -/
theorem tickComposition : Obligations.TickComposition := by
  refine ⟨?composition, fun _ _ _ => ⟨rfl, rfl⟩, fun _ => isNewModeLine_iff, ?kept⟩
  case composition =>
    intro s s0 b h a s1
    obtain ⟨t, ht⟩ := tick_completes b s0
    rw [ticksOn_step h, ht]
    have hcases := tick_cases ht
    rw [ticksOn_antic h] at hcases
    rcases hcases with ⟨hinside, rfl⟩ | ⟨hstart, hold, rfl⟩ | ⟨hstart, hnew, u, hu, rfl⟩
    · exact ⟨fun _ => rfl, fun hstart => absurd hstart hinside, fun hstart => absurd hstart hinside⟩
    · exact ⟨fun hinside => absurd hstart hinside, fun _ _ => rfl,
        fun _ hnew => absurd (hold.symm.trans hnew) Bool.false_ne_true⟩
    · exact ⟨fun hinside => absurd hstart hinside,
        fun _ hold => absurd (hold.symm.trans hnew) Bool.false_ne_true, fun _ _ => ⟨u, hu, rfl⟩⟩
  case kept =>
    intro s s0 t b h hstep
    rw [ticksOn_step h] at hstep
    have hwithout := tick_without_modeLine hstep
    rw [ticksOn_antic h, ticksOn_out h] at hwithout
    refine ⟨fun hnone => ?_, fun hnext hdescr => ?_⟩
    · obtain ⟨hdescr, hkept⟩ := hwithout hnone
      rw [hkept]
      exact ⟨hdescr, rfl, rfl, rfl, rfl, rfl, rfl, rfl, rfl⟩
    · by_contra hline
      refine hdescr (hwithout fun ⟨_, hnew⟩ => hline ?_).1
      rw [tick_scanLine hstep, ticksOn_antic h]
      refine scanLine_of_isNewModeLine hnew ?_
      rw [advanceCounters_eq]
      exact hnext

/-! ### The instruction that a mode-line start runs -/

/-- A one-byte instruction does not depend on the bytes after its own (30_encoding R102). -/
theorem decodeDl_of_dlLength_one {b0 : Byte} (h : dlLength b0 = 1) (b1 b2 c1 c2 : Byte) :
    decodeDl b0 b1 b2 = decodeDl b0 c1 c2 := by
  by_cases h0 : modeNibble b0 = 0
  · rw [decodeDl_of_blank h0, decodeDl_of_blank h0]
    rfl
  by_cases h1 : modeNibble b0 = 1
  · rw [dlLength_of_jump h1] at h
    cases h
  obtain ⟨mk, hmk⟩ := exists_modeLine h0 h1
  have hlms : ¬bit6 b0 = true := by
    intro hbit
    rw [hmk.dlLength_eq rfl, if_pos hbit] at h
    cases h
  rw [hmk.decodeDl_eq rfl, hmk.decodeDl_eq rfl]
  unfold decodeMode lmsOperand
  rw [if_neg hlms, if_neg hlms]

/-- Three bytes decode to the instruction that a fetch makes of them (30_encoding R102, R103). -/
theorem eq_decodeDl_of_decode {b0 b1 b2 : Byte} {i : Instr} {rest : List Byte}
    (h : decode .displayList [b0, b1, b2] = .ok (i, rest)) : i = decodeDl b0 b1 b2 := by
  change decodeDlBytes [b0, b1, b2] = .ok (i, rest) at h
  by_cases hone : dlLength b0 = 1
  · rw [decodeDlBytes_of_one hone] at h
    cases h
    exact decodeDl_of_dlLength_one hone 0 0 b1 b2
  · have hthree : decodeDlBytes [b0, b1, b2] = .ok (decodeDl b0 b1 b2, []) := if_neg hone
    rw [hthree] at h
    cases h
    rfl

/-- A display-list instruction has no operand that could be ill-formed. -/
theorem wellFormed_of_displayList {i : Instr} (h : i.source = .displayList) : i.wellFormed = true := by
  unfold Instr.source at h
  unfold Instr.wellFormed
  cases hrow : i.busRow with
  | none => rfl
  | some row =>
    rw [hrow] at h
    cases h

/-- A tick that starts a mode line, step by step (R130). -/
theorem tick_of_isNewModeLine {s : State} (b : Bool) (hstart : (advanceCounters s.antic).cycle = 0)
    (hnew : isNewModeLine (advanceCounters s.antic) = true) : tick b s =
      andThen (andThen (prepareModeLine (s.setAntic { advanceCounters s.antic with snapshotDone := false })) scheduleLine)
        (tickTail Config.visibleCycle.val b) := by
  obtain ⟨t, ht⟩ := tick_completes b s
  rcases tick_cases ht with ⟨hinside, -⟩ | ⟨-, hold, -⟩ | ⟨-, -, u, hu, rfl⟩
  · exact absurd hstart hinside
  · exact absurd (hold.symm.trans hnew) Bool.false_ne_true
  · rw [ht, hu]
    rfl

/-- With display-list DMA on, that mode line is the instruction fetched (41_antic_display_list R170). -/
theorem prepareModeLine_of_dma {s : State} (hdma : s.antic.dmactl.getLsbD 5 = true) :
    prepareModeLine (s.setAntic { advanceCounters s.antic with snapshotDone := false }) =
      exec (fetchInstr (modeLineState s)) (modeLineState s) := by
  refine if_pos (?_ : (advanceCounters s.antic).dmactl.getLsbD 5 = true)
  rw [advanceCounters_eq]
  exact hdma

/-- The fetch reads what the step began with (30_encoding R103). -/
theorem fetchInstr_modeLineState {s s0 : State} {b : Bool} (h : TicksOn s b s0) : fetchInstr (modeLineState s0) =
    decodeDl (memReadAntic s (dlistOffset s.antic.dlist 0)) (memReadAntic s (dlistOffset s.antic.dlist 1))
      (memReadAntic s (dlistOffset s.antic.dlist 2)) := by
  have hdlist : (modeLineState s0).antic.dlist = s.antic.dlist := by
    change (advanceCounters s0.antic).dlist = s.antic.dlist
    rw [advanceCounters_eq, ticksOn_antic h]
  have hread : ∀ addr, memReadAntic (modeLineState s0) addr = memReadAntic s addr := fun addr =>
    (show memReadAntic (modeLineState s0) addr = memReadAntic s0 addr from rfl).trans (ticksOn_memReadAntic h addr)
  simp only [fetchInstr, hdlist, hread]

/-- Settles O5: the instruction fetched is the one that the three bytes decode to. -/
theorem tickRunsDecodedInstruction : Obligations.TickRunsDecodedInstruction := by
  intro s s0 b i bytes rest h hstart hnew hdma hbytes hdecode
  subst hbytes
  cases eq_decodeDl_of_decode hdecode
  refine ⟨wellFormed_of_displayList (decodeDl_source ..), ?_⟩
  rw [← ticksOn_antic h] at hstart hnew hdma
  rw [ticksOn_step h, tick_of_isNewModeLine b hstart hnew, prepareModeLine_of_dma hdma, fetchInstr_modeLineState h]

end Sys2Proof.Machine
end

section
/-! PROOFS. The time that a tick takes, its stall and its NMI output, from what steps (1) to (4) hand on to steps (5) to
(8) (40_antic_timing R130, R145 to R154). -/

namespace Sys2Proof.Machine

/-! ### The time of a tick -/

/-- Steps (5) to (8) add to the total exactly the cycles they report as stolen (R145, R146). -/
theorem tickTail_total_stolen (vc : Nat) (b : Bool) (s : State) :
    (tickTail vc b s).antic.totalCycles + s.out.stolen = s.antic.totalCycles + (tickTail vc b s).out.stolen := by
  have skip : ∀ (u : State) (n : Nat),
      (skipTo n u).antic.totalCycles + u.out.stolen = u.antic.totalCycles + (skipTo n u).out.stolen := by
    intro u n
    rw [skipTo_total, skipTo_stolen]
    omega
  have hwsync : (applyWsync b s).antic.totalCycles + s.out.stolen =
      s.antic.totalCycles + (applyWsync b s).out.stolen := by
    unfold applyWsync
    split
    · exact skip ..
    · rfl
  have hsteals : (tickTail vc b s).antic.totalCycles + (fireIfDue (applyWsync b s)).out.stolen =
      (fireIfDue (applyWsync b s)).antic.totalCycles + (tickTail vc b s).out.stolen := skip ..
  rw [(fireIfDue_fields _).2, fireIfDue_total] at hsteals
  omega

/-- A step that ticks, by what steps (1) to (4) make of the state it began with. -/
theorem ticksOn_step_eq_tickTail {s s0 t : State} {b : Bool} (h : TicksOn s b s0) (hstep : step s = .next t) :
    ∃ u, t = tickTail Config.visibleCycle.val b u ∧ ReachesTail (s.setOut Output.quiet) u := by
  rw [ticksOn_step h] at hstep
  obtain ⟨u, ht, hframe, hout, hinside, hblank⟩ := tick_eq_tickTail hstep
  rw [ticksOn_antic h] at hframe hinside hblank
  rw [ticksOn_out h] at hout
  exact ⟨u, ht, hframe, hout, hinside, hblank⟩

/-- The first cycle that a tick reaches is one of a line's 114 (R131). -/
theorem advanceCounters_cycle_lt {a : Antic} (h : a.cycle < 114) : (advanceCounters a).cycle < 114 := by
  rw [advanceCounters_eq]
  dsimp only
  split <;> omega

/-- Steps (5) to (8) go forward by what they charge (R145, R146). -/
theorem tickTail_cycle_stolen {s : State} (h : s.antic.cycle < 114) (vc : Nat) (b : Bool) :
    (tickTail vc b s).antic.cycle + s.out.stolen = s.antic.cycle + (tickTail vc b s).out.stolen := by
  obtain ⟨-, -, -, -, hcycle, hstolen⟩ := tickTail_fields vc b s
  have hstall : s.antic.cycle ≤ if s.antic.wsyncPending && b then wsyncTarget s.antic.cycle else s.antic.cycle := by
    split
    · exact (wsyncTarget_bounds h).1
    · exact Nat.le_refl _
  have hwalk := le_stealWalk s.antic.dmaWindows
    (if s.antic.wsyncPending && b then wsyncTarget s.antic.cycle else s.antic.cycle)
  omega

/-- Settles O46: step (1) moves on by one cycle, steps (5) to (8) by the cycles they charge, and no step after (1) leaves
the line. -/
theorem tickAccountsForItsCycles : Obligations.TickAccountsForItsCycles := by
  intro s s0 t b hinv h hstep
  have hline := tick_scanLine (ticksOn_step h ▸ hstep)
  obtain ⟨u, rfl, hu⟩ := ticksOn_step_eq_tickTail h hstep
  have hquiet : u.out.stolen = 0 := congrArg Output.stolen hu.out
  have hcycle := tickTail_cycle_stolen
    (hu.frame.cycle ▸ advanceCounters_cycle_lt hinv.timing.cycle_lt) Config.visibleCycle.val b
  have htotal := tickTail_total_stolen Config.visibleCycle.val b u
  rw [hquiet, hu.frame.cycle, Nat.add_zero] at hcycle
  rw [hquiet, hu.frame.totalCycles, Nat.add_zero] at htotal
  rw [htotal, hcycle, hline, ticksOn_antic h, State.setOut_antic, advanceCounters_eq]
  exact ⟨rfl, rfl, rfl⟩

/-! ### The stall -/

/-- Steps (5) to (8) with a stall: it takes the request and lands late enough for the fire, and the steals begin where it
lands (R150, R152). -/
theorem tickTail_stalled {s : State} (hpending : s.antic.wsyncPending = true) (vc : Nat) :
    (tickTail vc true s).antic.wsyncPending = false ∧ (tickTail vc true s).antic.nmiPending = none ∧
    (tickTail vc true s).antic.dmaWindows = (stealWalk s.antic.dmaWindows (wsyncTarget s.antic.cycle)).1 ∧
    (tickTail vc true s).antic.cycle = (stealWalk s.antic.dmaWindows (wsyncTarget s.antic.cycle)).2 := by
  obtain ⟨hwsync, -, hnmi, hwindows, hcycle, -⟩ := tickTail_fields vc true s
  have hstall : (s.antic.wsyncPending && true) = true := by rw [hpending]; rfl
  have hlate : ¬wsyncTarget s.antic.cycle < 5 := by unfold wsyncTarget; split <;> omega
  simp only [hstall, if_true, if_neg hlate] at hwsync hnmi hwindows hcycle
  exact ⟨hwsync, hnmi, hwindows, hcycle⟩

/-- Steps (5) to (8) without a stall: the request stays, and the fire and the steals begin at the first cycle reached
(R150, R152). -/
theorem tickTail_unstalled {s : State} {b : Bool} (hnone : (s.antic.wsyncPending && b) = false) (vc : Nat) :
    (tickTail vc b s).antic.wsyncPending = s.antic.wsyncPending ∧
    (tickTail vc b s).antic.nmiPending = (if s.antic.cycle < 5 then s.antic.nmiPending else none) ∧
    (tickTail vc b s).antic.cycle = (stealWalk s.antic.dmaWindows s.antic.cycle).2 := by
  obtain ⟨hwsync, -, hnmi, -, hcycle, -⟩ := tickTail_fields vc b s
  simp only [hnone, Bool.false_eq_true, if_false] at hwsync hnmi hcycle
  exact ⟨hwsync, hnmi, hcycle⟩

/-- Settles O48: what a stalled and an unstalled tick leave, with the windows of before inside a line and none at the start
of a line in vertical blank. -/
theorem wsyncStall : Obligations.WsyncStall := by
  intro s s0 t b h hinv hstep c land
  obtain ⟨u, rfl, hu⟩ := ticksOn_step_eq_tickTail h hstep
  have hadvance : (advanceCounters s.antic).cycle = c := by rw [advanceCounters_eq]
  have hc : u.antic.cycle = c := hu.frame.cycle.trans hadvance
  have hlt : u.antic.cycle < 114 := hu.frame.cycle ▸ advanceCounters_cycle_lt hinv.timing.cycle_lt
  have hpending : u.antic.wsyncPending = s.antic.wsyncPending := by
    rw [hu.frame.wsyncPending, State.setOut_antic, advanceCounters_eq]
  have hquiet : u.out.stolen = 0 := congrArg Output.stolen hu.out
  have hinside : c ≠ 0 → u.antic.dmaWindows = s.antic.dmaWindows ∧ u.antic.nmiPending = s.antic.nmiPending := by
    intro hne
    rw [hu.inside (ne_of_eq_of_ne hadvance hne), State.setOut_antic, advanceCounters_eq]
    exact ⟨rfl, rfl⟩
  have hstolen := tickTail_cycle_stolen hlt Config.visibleCycle.val b
  rw [hquiet, Nat.add_zero, hc] at hstolen
  refine ⟨?stalled, ?noBoundary, ?early⟩
  case stalled =>
    rintro hwsync rfl
    obtain ⟨hdone, hfired, hwindows, hcycle⟩ := tickTail_stalled (hpending.trans hwsync) Config.visibleCycle.val
    rw [hc] at hwindows hcycle
    refine ⟨hdone, hfired, hcycle ▸ le_stealWalk _ land, by omega, fun hne => ?_, fun hzero hblank => ?_⟩
    · rw [hwindows, hcycle, (hinside hne).1]
      exact ⟨stealWalk_left_eq_filter hinv.timing.windows_ok land, stealWalk_cycle_of_ended⟩
    · obtain ⟨-, hline, -⟩ := tickTail_fields Config.visibleCycle.val true u
      rw [hline, ← visible_iff, Bool.not_eq_true] at hblank
      rw [hcycle, hu.blank (hadvance.trans hzero) hblank]
      rfl
  case noBoundary =>
    rintro rfl
    obtain ⟨hkept, -, hcycle⟩ := tickTail_unstalled (Bool.and_false u.antic.wsyncPending) Config.visibleCycle.val
    refine ⟨hkept.trans hpending, fun hne hahead => ?_⟩
    rw [hc, (hinside hne).1, stealWalk_cycle_of_ended fun w hw hw' => absurd (hahead w hw) (Nat.not_lt.mpr hw')] at hcycle
    exact ⟨hcycle, by omega⟩
  case early =>
    intro hnone hne hearly
    have hstall : (u.antic.wsyncPending && b) = false := by rw [hpending, Bool.and_eq_false_iff]; exact hnone
    obtain ⟨-, hnmi, -⟩ := tickTail_unstalled hstall Config.visibleCycle.val
    rw [hnmi, hc, if_pos hearly, (hinside hne).2]

/-! ### The NMI output -/

/-- The steps after the fire change nothing that the fire step writes (R130). -/
theorem snapshot_steals_nmi (vc : Nat) (s : State) :
    (applySteals (snapshotIfDue vc s)).antic.nmist = s.antic.nmist ∧
    (applySteals (snapshotIfDue vc s)).antic.nmien = s.antic.nmien ∧
    (applySteals (snapshotIfDue vc s)).antic.nmiPending = s.antic.nmiPending ∧
    (applySteals (snapshotIfDue vc s)).out.nmi = s.out.nmi := ⟨rfl, rfl, rfl, rfl⟩

/-- What NMI tells of the tick that outputs it (R152, R154). -/
theorem tickTail_nmi {s : State} {vc : Nat} {b : Bool} (hquiet : s.out.nmi = false)
    (h : (tickTail vc b s).out.nmi = true) :
    ((tickTail vc b s).antic.nmist = 0x80 ∧ (tickTail vc b s).antic.nmien.getLsbD 7 = true ∨
      (tickTail vc b s).antic.nmist = 0x40 ∧ (tickTail vc b s).antic.nmien.getLsbD 6 = true) ∧
    (tickTail vc b s).antic.nmiPending = none := by
  have hstalled : (applyWsync b s).out.nmi = false := by
    rw [(applyWsync_fields b s).2]
    exact hquiet
  obtain ⟨hnmist, hnmien, hlatch, hout⟩ := snapshot_steals_nmi vc (fireIfDue (applyWsync b s))
  unfold tickTail at h ⊢
  rw [hout] at h
  rw [hnmist, hnmien, hlatch]
  exact fireIfDue_nmi hstalled h

/-- A bus write outputs nothing. -/
theorem busWrite_out {addr : Word} {v : Byte} {s t : State} (h : busWrite addr v s = .next t) : t.out = s.out := by
  cases busWrite_result h <;> rfl

theorem keyPress_nmi (key : HostKey) (pressed shift ctl : Bool) (s : State) :
    (keyPress key pressed shift ctl s).out.nmi = s.out.nmi := by
  unfold keyPress
  split
  · rfl
  · split <;> rfl

theorem irqEvent_nmi (source : IrqSource) (s : State) : (irqEvent source s).out.nmi = s.out.nmi := by
  unfold irqEvent
  split <;> rfl

/-- No input but a tick outputs NMI (60_exceptions R394). -/
theorem runInput_nmi {i : Input} {s t : State} (htick : ∀ b, i ≠ .tick b) (h : runInput i s = .next t) :
    t.out.nmi = s.out.nmi := by
  cases i
  case tick b => exact absurd rfl (htick b)
  case write addr v => rw [busWrite_out h]
  case read addr =>
    obtain ⟨x, n, hread, -⟩ := busReadsHaveNoSideEffect addr s
    cases hread.symm.trans h
    rfl
  case keyPress key pressed shift ctl => cases h; exact keyPress_nmi key pressed shift ctl s
  case irqEvent source => cases h; exact irqEvent_nmi source s
  case muxSet mux source mask => cases h; rw [muxSet_muxOnly]
  case collide i m => cases h; rfl
  case setTrigger i pressed => cases h; rfl
  case audioDrain => cases h; rfl
  case synthCycle => cases h; rfl
  case machineReset => cases h; rfl

/-- A step that outputs NMI ticks. -/
theorem ticksOn_of_nmi {s t : State} (hstep : step s = .next t) (hnmi : t.out.nmi = true) : ∃ b s0, TicksOn s b s0 := by
  rcases step_cases hstep with ⟨hinputs, -⟩ | ⟨i, rest, hinputs, hrun⟩
  · exact ⟨_, _, .inr ⟨hinputs, rfl, rfl⟩⟩
  · by_contra hnone
    have htick : ∀ b, i ≠ .tick b := by
      rintro b rfl
      exact hnone ⟨b, _, .inl ⟨rest, hinputs, rfl⟩⟩
    exact Bool.false_ne_true ((runInput_nmi htick hrun).symm.trans hnmi)

/-- Settles O53: only a tick outputs NMI, and only its fire step. -/
theorem nmiOnlyWhenEnabled : Obligations.NmiOnlyWhenEnabled := by
  intro s t hstep hnmi
  obtain ⟨b, s0, h⟩ := ticksOn_of_nmi hstep hnmi
  obtain ⟨u, rfl, hu⟩ := ticksOn_step_eq_tickTail h hstep
  obtain ⟨hstatus, hfired⟩ := tickTail_nmi (congrArg Output.nmi hu.out) hnmi
  refine ⟨hstatus, hfired, ?_⟩
  rcases h with ⟨rest, hinputs, -⟩ | ⟨hinputs, -⟩
  · exact .inr ⟨b, rest, hinputs⟩
  · exact .inl hinputs

end Sys2Proof.Machine
end

section
/-! PROOFS. The next state of every display-list instruction, in the numbers of the rules (41_antic_display_list). -/

namespace Sys2Proof.Machine

/-! ### Fields and widths in the words of the statements -/

theorem pfWidth_eq (dmactl : Byte) : pfWidth dmactl = dmactl.toNat % 4 := by
  simp only [pfWidth, BitVec.extractLsb'_toNat, Nat.shiftRight_zero]

theorem pfPixels_eq_widthPixels (w : Nat) : pfPixels w = widthPixels w :=
  match w with
  | 0 | 1 | 2 | _ + 3 => rfl

theorem nBytes_eq_fetchedBytes (m : DisplayMode) (w : Nat) (hs : Bool) :
    nBytes m w hs = fetchedBytes m.baseBytes w hs := by
  change nBytes m w hs = if w = 0 then 0 else if fetchWidth w hs = 1 then m.baseBytes * 4 / 5
    else if fetchWidth w hs = 2 then m.baseBytes else m.baseBytes * 6 / 5
  unfold nBytes
  split
  · rfl
  · split
    next h => rw [if_pos h]
    next h => rw [h]; rfl
    next h1 h2 => rw [if_neg h1, if_neg h2]

theorem scrollBits_eq_setWidth (v : Byte) : scrollBits v = v.setWidth 4 :=
  (BitVec.setWidth_eq_extractLsb' (by decide)).symm

theorem scrollBits_toNat (v : Byte) : (scrollBits v).toNat = v.toNat % 16 := by
  rw [scrollBits_eq_setWidth, BitVec.toNat_setWidth]

/-- The height of a mode line: 15 more than `H - v` under the 4-bit wrap is 1 less (R183). -/
theorem vscrollHeight_fst (lines : Nat) (vs active : Bool) (v : BitVec 4) :
    (vscrollHeight lines vs active v).1 = lineHeight lines v.toNat vs active :=
  match vs, active with
  | true, false => by
    have hv := v.isLt
    change (lines + 15 - v.toNat) % 16 + 1 = (((lines : Int) - 1 - v.toNat) % 16 + 1).toNat
    omega
  | false, true | true, true | false, false => rfl

theorem vscrollHeight_snd (lines : Nat) (vs active : Bool) (v : BitVec 4) :
    (vscrollHeight lines vs active v).2 = if vs && !active then v else 0 := by
  cases vs <;> cases active <;> rfl

/-! ### Options in an instruction byte -/

theorem blankByte_options (dli : Bool) (n : BitVec 3) :
    (blankByte dli n).extractLsb' 4 4 = BitVec.ofBool dli ++ n := BitVec.extractLsb'_append_eq_left

theorem jumpByte_options (dli jvb : Bool) (x : BitVec 2) :
    (jumpByte dli jvb x).extractLsb' 4 4 = BitVec.ofBool dli ++ BitVec.ofBool jvb ++ x :=
  BitVec.extractLsb'_append_eq_left

theorem modeByte_options (m : BitVec 4) (dli lms vs hs : Bool) : (modeByte m dli lms vs hs).extractLsb' 4 4 =
    BitVec.ofBool dli ++ BitVec.ofBool lms ++ BitVec.ofBool vs ++ BitVec.ofBool hs :=
  BitVec.extractLsb'_append_eq_left

/-! ### Lines without playfield -/

/-- The next state of a line that fetches no playfield, whole (R172 to R174, R187, R204). -/
theorem emptyLine_eq (ir : Byte) (height next : Nat) (dlist : Word) (s : State) :
    emptyLine ir height next dlist s = { s with
      antic := { s.antic with
        ir := ir, lineHeight := height, voffset := 0, dlist := dlist, nextScanLine := next }
      out := { s.out with descr := some {
        mode := modeNibble ir
        opts := ir.extractLsb' 4 4
        width := widthPixels (s.antic.dmactl.toNat % 4)
        height := height
        nBytes := 0
        voffset := 0
        videoOffset := s.antic.videoMemory
        charsetBase := s.antic.chbase ++ 0#8
        pmBase := s.antic.pmbase ++ 0#8
        hscrol := 0 } } } := by
  rw [← pfWidth_eq, ← pfPixels_eq_widthPixels]
  rfl

/-- Settles O11: a line without playfield, whose byte holds the count where a mode line has its options. -/
theorem blankResult : Obligations.BlankResult := by
  intro dli n s
  change Host.Outcome.next (emptyLine (blankByte dli n) _ _ _ s) = _
  rw [emptyLine_eq, (blankByte_fields dli n).1, blankByte_options]
  rfl

/-- Settles O12: lines without playfield, with the target for the pointer; the two differ in bit 6 and in the next scan
line. -/
theorem jumpResults : Obligations.JumpResults := by
  intro dli x target s after
  have hafter : ∀ (jvb : Bool) (next : Nat), emptyLine (jumpByte dli jvb x) 1 next target s = after jvb next := by
    intro jvb next
    rw [emptyLine_eq, (jumpByte_fields dli jvb x).1, jumpByte_options]
    rfl
  exact ⟨congrArg Host.Outcome.next (hafter false _), congrArg Host.Outcome.next (hafter true 8)⟩

/-! ### Display modes -/

/-- The constructor of the mode's instruction (30_encoding R101). -/
def DisplayMode.instr : DisplayMode → Bool → Option Word → Bool → Bool → Instr
  | .m2 => .mode2
  | .m3 => .mode3
  | .m4 => .mode4
  | .m5 => .mode5
  | .m6 => .mode6
  | .m7 => .mode7
  | .m8 => .mode8
  | .m9 => .mode9
  | .mA => .modeA
  | .mB => .modeB
  | .mC => .modeC
  | .mD => .modeD
  | .mE => .modeE
  | .mF => .modeF

/-- Every display mode runs the one `display_mode_line` (R176). -/
theorem exec_instr (m : DisplayMode) (dli : Bool) (lms : Option Word) (vs hs : Bool) (s : State) :
    exec (m.instr dli lms vs hs) s = .next (displayModeLine m dli lms vs hs s) := by
  cases m <;> rfl

/-- Every row of the mode table is a mode's constructor with its numbers (R177). -/
theorem exists_displayMode_of_mem_modeRows {row : (Bool → Option Word → Bool → Bool → Instr) × BitVec 4 × Nat × Nat}
    (h : row ∈ modeRows) : ∃ m : DisplayMode, row = (m.instr, m.nibble, m.lines, m.baseBytes) := by
  have hrows : modeRows =
      [.m2, .m3, .m4, .m5, .m6, .m7, .m8, .m9, .mA, .mB, .mC, .mD, .mE, .mF].map fun m : DisplayMode =>
        (m.instr, m.nibble, m.lines, m.baseBytes) := rfl
  rw [hrows, List.mem_map] at h
  obtain ⟨m, -, hm⟩ := h
  exact ⟨m, hm.symm⟩

/-- Settles O13: each row is a mode, and the mode line's height, offset, byte count and widths are those of the rules. -/
theorem displayModeResults : Obligations.DisplayModeResults := by
  intro row hrow dli lms vs hs s
  obtain ⟨m, rfl⟩ := exists_displayMode_of_mem_modeRows hrow
  have hheight : (vscrollHeight m.lines vs s.antic.vscrolActive (scrollBits s.antic.vscrol)).1 =
      lineHeight m.lines (s.antic.vscrol.toNat % 16) vs s.antic.vscrolActive := by
    rw [vscrollHeight_fst, scrollBits_toNat]
  have hoffset : (vscrollHeight m.lines vs s.antic.vscrolActive (scrollBits s.antic.vscrol)).2 =
      if vs && !s.antic.vscrolActive then BitVec.ofNat 4 (s.antic.vscrol.toNat % 16) else 0 := by
    rw [vscrollHeight_snd, scrollBits_eq_ofNat]
  dsimp only
  rw [exec_instr, displayModeLine, modeDescr, modeAntic, hheight, hoffset, modeByte_options, pfWidth_eq,
    pfPixels_eq_widthPixels, nBytes_eq_fetchedBytes, scrollBits_eq_setWidth]
  rfl

/-- Settles O14: a display-list instruction changes ANTIC and the outputs alone, and of these its own fields. -/
theorem displayListFrame : Obligations.DisplayListFrame := by
  intro i s t hi h
  obtain ⟨heffect, honly, hout⟩ := exec_displayList_effect hi h
  have hram : ∀ a, t.ram a = s.ram a := fun a => congrArg (Memory.read unlistedByte · a) honly.mem
  exact ⟨hram, honly.gtia, honly.pokey, honly.pia, honly.joyMux, honly.consolMux, honly.cart, honly.synth,
    honly.inputs, honly.draws, hout, heffect.frame⟩

/-! ### Mode-line starts -/

/-- The state on which a mode-line start runs its instruction or the default line (R170). -/
def startedHere (s : State) : State := s.setAntic { s.antic with startScanLine := s.antic.scanLine }

theorem prepareModeLine_of_dmaOn {s : State} (h : s.antic.dmactl.getLsbD 5 = true) :
    prepareModeLine s = exec (fetchInstr (startedHere s)) (startedHere s) := if_pos h

theorem prepareModeLine_of_dmaOff {s : State} (h : s.antic.dmactl.getLsbD 5 = false) :
    prepareModeLine s = .next (defaultLine (startedHere s)) := if_neg (Bool.eq_false_iff.mp h)

/-- Settles O16: the default line is a line without playfield with `ir` 0 that keeps the pointer. -/
theorem defaultLineWithoutDma : Obligations.DefaultLineWithoutDma := by
  intro s hoff
  rw [prepareModeLine_of_dmaOff hoff, defaultLine, emptyLine_eq]
  rfl

/-! ### The next scan line after a mode-line start -/

/-- JVB is the class `MODE = 1` with bit 6 set (30_encoding R101). -/
theorem and_eq_jvb_iff {b : Byte} : b &&& 0x4f = 0x41 ↔ modeNibble b = 1 ∧ bit6 b = true := by
  revert b; decide

/-- The next scan line is that of R188, but 8 after a JVB. -/
def NextLineSet (a : Antic) : Prop :=
  a.nextScanLine = if a.ir &&& 0x4f = 0x41 then 8 else nextLine a.startScanLine a.lineHeight

theorem nextLineSet_of_jvb {a : Antic} (hmode : modeNibble a.ir = 1) (hjvb : bit6 a.ir = true)
    (h : a.nextScanLine = 8) : NextLineSet a :=
  h.trans (if_pos (and_eq_jvb_iff.mpr ⟨hmode, hjvb⟩)).symm

theorem nextLineSet_of_not_jvb {a : Antic} (hir : modeNibble a.ir = 1 → bit6 a.ir = false)
    (h : a.nextScanLine = nextLine a.startScanLine a.lineHeight) : NextLineSet a := by
  refine h.trans (if_neg fun hcode => ?_).symm
  obtain ⟨hmode, hjvb⟩ := and_eq_jvb_iff.mp hcode
  exact Bool.false_ne_true ((hir hmode).symm.trans hjvb)

/-- Every `MODE` but 0 and 1 decodes to its display mode's instruction (30_encoding R101). -/
theorem exists_displayMode_of_class {m : BitVec 4} (h0 : m ≠ 0) (h1 : m ≠ 1) :
    ∃ d : DisplayMode, d.nibble = m ∧ dlClasses[m.toFin] = decodeMode d.instr := by
  obtain ⟨n⟩ := m
  fin_cases n
  · exact absurd rfl h0
  · exact absurd rfl h1
  exacts [⟨.m2, rfl, rfl⟩, ⟨.m3, rfl, rfl⟩, ⟨.m4, rfl, rfl⟩, ⟨.m5, rfl, rfl⟩, ⟨.m6, rfl, rfl⟩, ⟨.m7, rfl, rfl⟩,
    ⟨.m8, rfl, rfl⟩, ⟨.m9, rfl, rfl⟩, ⟨.mA, rfl, rfl⟩, ⟨.mB, rfl, rfl⟩, ⟨.mC, rfl, rfl⟩, ⟨.mD, rfl, rfl⟩,
    ⟨.mE, rfl, rfl⟩, ⟨.mF, rfl, rfl⟩]

/-- An instruction fetched sets the next scan line by its class. -/
theorem exec_decodeDl_nextLineSet {b0 b1 b2 : Byte} {s t : State} (h : exec (decodeDl b0 b1 b2) s = .next t) :
    NextLineSet t.antic := by
  by_cases h0 : modeNibble b0 = 0
  · rw [decodeDl_of_blank h0] at h
    cases h
    have hmode := (blankByte_fields (dliBit b0) (blankCount b0)).1
    exact nextLineSet_of_not_jvb (fun hjump => absurd (hmode.symm.trans hjump) (by decide)) rfl
  by_cases h1 : modeNibble b0 = 1
  · obtain ⟨hmode, -, hjvb, -⟩ := jumpByte_fields (dliBit b0) (bit6 b0) (ignoredBits b0)
    rw [decodeDl_of_jump h1, decodeJump] at h
    split at h
    next hbit =>
      cases h
      rw [hbit] at hmode hjvb
      exact nextLineSet_of_jvb hmode hjvb rfl
    next hbit =>
      cases h
      rw [Bool.eq_false_of_not_eq_true hbit] at hjvb
      exact nextLineSet_of_not_jvb (fun _ => hjvb) rfl
  obtain ⟨m, hm, hclass⟩ := exists_displayMode_of_class h0 h1
  rw [decodeDl_of_modeNibble rfl, hclass, decodeMode, exec_instr] at h
  cases h
  obtain ⟨hmode, -⟩ := modeByte_fields m.nibble (dliBit b0) (lmsOperand b0 b1 b2).isSome (vscrolBit b0) (hscrolBit b0)
  exact nextLineSet_of_not_jvb (fun hjump => absurd (hm.symm.trans (hmode.symm.trans hjump)) h1) rfl

/-- So does every mode-line start (R188). -/
theorem prepareModeLine_nextLineSet {s t : State} (h : prepareModeLine s = .next t) : NextLineSet t.antic := by
  cases hdma : s.antic.dmactl.getLsbD 5 with
  | true =>
    rw [prepareModeLine_of_dmaOn hdma] at h
    exact exec_decodeDl_nextLineSet h
  | false =>
    rw [prepareModeLine_of_dmaOff hdma] at h
    cases h
    exact nextLineSet_of_not_jvb (fun _ => (by decide : bit6 0 = false)) rfl

/-- Settles O17: a mode line starts on the scan line it is on, and its instruction, or the default line, sets the next. -/
theorem nextScanLineAfterModeLineStart : Obligations.NextScanLineAfterModeLineStart := by
  intro s t h
  obtain ⟨heffect, -, -⟩ := prepareModeLine_effect h
  exact ⟨by rw [heffect.frame], prepareModeLine_nextLineSet h⟩

end Sys2Proof.Machine
end

section
/-! PROOFS. The registers of ANTIC one by one (42_antic_registers), and with them the accesses of every chip that do the
same: the ignored writes, the open-bus reads, the draws and the reads of a latch. -/

namespace Sys2Proof.Machine

/-! ### The display-list pointer in halves -/

theorem lo16_eq_or (h l : Byte) : lo16 h l = (h.setWidth 16 <<< 8) ||| l.setWidth 16 := by
  rw [lo16, ← BitVec.setWidth_append_eq_shiftLeft_setWidth_or, BitVec.setWidth_eq]

theorem and_lo16 (w : Word) (h l : Byte) : w &&& lo16 h l = lo16 (highByte w &&& h) (lowByte w &&& l) := by
  conv_lhs => rw [← lo16_highByte_lowByte w]
  exact BitVec.and_append

/-- The high half alone, as the mask 0xff00 keeps it. -/
theorem and_lo16_high (w : Word) : w &&& lo16 0xff 0#8 = (highByte w).setWidth 16 <<< 8 := by
  have hhigh : highByte w &&& 0xff = highByte w := BitVec.and_allOnes
  rw [and_lo16, hhigh, BitVec.and_zero, lo16_eq_or, BitVec.setWidth_zero, BitVec.or_zero]

/-- The low half alone, as the mask 0x00ff keeps it. -/
theorem and_lo16_low (w : Word) : w &&& lo16 0#8 0xff = (lowByte w).setWidth 16 := by
  have hlow : lowByte w &&& 0xff = lowByte w := BitVec.and_allOnes
  rw [and_lo16, hlow, BitVec.and_zero, lo16_eq_or, BitVec.setWidth_zero, BitVec.zero_shiftLeft, BitVec.zero_or]

/-- A byte written to DLISTL replaces the pointer's low half (R212). -/
theorem lo16_highByte_eq_or (w : Word) (l : Byte) : lo16 (highByte w) l = (w &&& 0xff00) ||| l.setWidth 16 := by
  rw [lo16_eq_or, ← and_lo16_high]
  rfl

/-- A byte written to DLISTH replaces the pointer's high half (R213). -/
theorem lo16_lowByte_eq_or (w : Word) (h : Byte) :
    lo16 h (lowByte w) = (w &&& 0x00ff) ||| (h.setWidth 16 <<< 8) := by
  rw [lo16_eq_or, ← and_lo16_low, BitVec.or_comm]
  rfl

/-! ### Writes -/

/-- Settles O19: each write replaces one field of ANTIC, the two halves of the pointer spelled with masks. -/
theorem anticWriteResults : Obligations.AnticWriteResults := by
  intro addr v s
  rw [← lo16_highByte_eq_or, ← lo16_lowByte_eq_or]
  exact ⟨rfl, rfl, rfl, rfl, rfl, rfl, rfl, rfl, rfl, rfl, rfl⟩

/-- Settles O20: the nine meanings are the identity. -/
theorem unusedWritesChangeNothing : Obligations.UnusedWritesChangeNothing := by
  intro addr v s mk hmk
  fin_cases hmk <;> rfl

/-! ### What a read drives on the bus, in the words of the statements -/

theorem driveData_eq_readResult (v : Byte) (s : State) : driveData v s = readResult s v := rfl

theorem driveOpenBus_eq_readResult (s : State) : driveOpenBus s = readResult s 0xff := rfl

theorem driveDraw_eq_drawResult (s : State) : driveDraw s = drawResult s := rfl

/-! ### Reads -/

/-- Settles O21: each of the offsets and pages drives open bus. -/
theorem openBusReads : Obligations.OpenBusReads := by
  intro addr s mk hmk
  rw [← driveOpenBus_eq_readResult]
  fin_cases hmk <;> rfl

/-- Settles O22: each of the registers drives a draw. -/
theorem drawReads : Obligations.DrawReads := by
  intro addr s mk hmk
  rw [← driveDraw_eq_drawResult]
  fin_cases hmk <;> rfl

/-- VCOUNT is half a scan line (R223), whose bit 0 the shift drops. -/
theorem vcount_eq_shiftRight (l c : Nat) :
    vcount l c = BitVec.ofNat 8 (if 110 ≤ c then ((l + 1) % 312) >>> 1 else l >>> 1) := by
  rw [vcount, Nat.shiftRight_one, Nat.shiftRight_one]
  split <;> rfl

/-- Settles O23: each of the registers drives its byte; VCOUNT's is computed from the raster. -/
theorem statusReads : Obligations.StatusReads := by
  intro addr s
  simp only [← vcount_eq_shiftRight, ← driveData_eq_readResult]
  exact ⟨rfl, rfl, rfl, rfl, rfl⟩

end Sys2Proof.Machine
end

section
/-! PROOFS. The registers of GTIA one by one (43_gtia), the raw file that every write of its page stores into, and its
collision and trigger inputs. -/

namespace Sys2Proof.Machine

/-! ### The raw file -/

/-- Every write of the page stores its byte at its own offset of the raw file and leaves the triggers alone; what else of
GTIA it changes is its side effect (43_gtia R240). -/
theorem exec_gtiaWrites_stores (n : Fin 32) (addr : Word) (v : Byte) (s : State) :
    ∃ g, exec (gtiaWrites[n] addr v) s = .next (s.setGtia g) ∧ g.regs = s.gtia.regs.set n v ∧ g.trig = s.gtia.trig := by
  fin_cases n <;> exact ⟨_, rfl, rfl, rfl⟩

/-- The mask 0xff00 selects the page alone (30_encoding R108). -/
theorem highByte_eq_of_and_ff00 {addr m : Word} (h : addr &&& 0xff00 = m) : highByte addr = highByte m :=
  (eq_of_and_selectMask (n := 0) (Nat.zero_le 8) h).1

/-- The offset of a write is its address modulo the 32 registers, at every mirror (43_gtia R240, R299). -/
theorem gtiaOffset_val (addr : Word) : (addr.extractLsb' 0 5).toFin.val = addr.toNat % 32 :=
  BitVec.extractLsb'_toNat 0 5 addr

/-- Settles O27: the page decodes to the write of the register at the address modulo 32, which stores its byte there. -/
theorem gtiaPageStoresRaw : Obligations.GtiaPageStoresRaw := by
  intro addr v s hpage
  have hdecode := gtiaPage.decodeWrite_eq addr (highByte_eq_of_and_ff00 hpage) v
  obtain ⟨g, hexec, hregs, htrig⟩ := exec_gtiaWrites_stores (addr.extractLsb' 0 5).toFin addr v s
  refine ⟨s.setGtia g, (busWrite_of_decodeWrite hdecode s).trans hexec, rfl, htrig, fun o => ?_⟩
  simp only [State.setGtia_gtia, hregs, Fin.getElem_fin, Vector.getElem_set, gtiaOffset_val]
  exact if_congr eq_comm rfl rfl

/-! ### Writes in the words of the statements -/

theorem gtiaStore_eq (o : Fin 32) (v : Byte) (s : State) :
    gtiaStore o v s = { s with gtia := { s.gtia with regs := s.gtia.regs.set o v } } := rfl

theorem playerStore_eq (o : Fin 32) (p : Fin 4) (v : Byte) (s : State) :
    playerStore o p v s = { s with gtia := { s.gtia with
      regs := s.gtia.regs.set o v
      playerGraphics := s.gtia.playerGraphics.set p v } } := rfl

/-- Settles O24: each of the registers is a raw store at its own offset. -/
theorem gtiaPositionAndSizeWrites : Obligations.GtiaPositionAndSizeWrites := by
  intro addr v s row hrow
  rw [← gtiaStore_eq]
  fin_cases hrow <;> rfl

/-- Settles O25: each of the registers is a raw store at its own offset. -/
theorem gtiaColourAndControlWrites : Obligations.GtiaColourAndControlWrites := by
  intro addr v s row hrow
  rw [← gtiaStore_eq]
  fin_cases hrow <;> rfl

/-- Settles O26: the four player graphics share one store, and each other write has its own. -/
theorem gtiaSideEffectWrites : Obligations.GtiaSideEffectWrites := by
  intro addr v s
  refine ⟨rfl, fun row hrow => ?_, rfl, rfl, rfl⟩
  rw [← playerStore_eq]
  fin_cases hrow <;> rfl

/-! ### Reads in the words of the statements -/

theorem driveCollision_eq_readResult (i : Fin 16) (s : State) :
    driveCollision i s = readResult s s.gtia.collisions[i] := rfl

/-- A trigger is read in bit 0, with bits 7:1 zero (R289). -/
theorem driveTrigger_eq_readResult (i : Fin 4) (s : State) :
    driveTrigger i s = readResult s (0#7 ++ s.gtia.trig[i]) := by
  rw [driveTrigger, driveData_eq_readResult, BitVec.setWidth_eq_append (by decide)]
  rfl

/-- Settles O28: each of the registers drives the accumulator of its row. -/
theorem collisionReads : Obligations.CollisionReads := by
  intro addr s row hrow
  rw [← driveCollision_eq_readResult]
  fin_cases hrow <;> rfl

/-- Settles O29: two accumulators, the four triggers, and constants. -/
theorem otherGtiaReads : Obligations.OtherGtiaReads := by
  intro addr s
  have trigger (i : Fin 4) : (.next (driveTrigger i s) : Res) = .next (readResult s (0#7 ++ s.gtia.trig[i])) :=
    congrArg _ (driveTrigger_eq_readResult i s)
  exact ⟨rfl, rfl, rfl, rfl, trigger 0, trigger 1, trigger 2, trigger 3, rfl, rfl⟩

/-! ### Inputs -/

/-- Settles O56: the two inputs replace one collision register and one trigger. -/
theorem collisionAndTriggerInputs : Obligations.CollisionAndTriggerInputs :=
  fun _ _ _ _ _ => ⟨rfl, rfl⟩

end Sys2Proof.Machine
end

section
/-! PROOFS. The registers of POKEY one by one (44_pokey_registers): the audio queue, the immediate writes, and the
interrupt requests that IRQEN, the keyboard and the environment events make and end. -/

namespace Sys2Proof.Machine

/-! ### Writes in the words of the statements -/

theorem queueAudio_eq (r : Fin 9) (v : Byte) (s : State) :
    queueAudio r v s = { s with pokey := { s.pokey with
      audioQueue := s.pokey.audioQueue ++ [⟨s.antic.totalCycles, r, v⟩] } } := rfl

/-- Settles O31: each of the registers queues its byte under its own number. -/
theorem audioWritesQueue : Obligations.AudioWritesQueue := by
  intro addr v s row hrow
  rw [← queueAudio_eq]
  fin_cases hrow <;> rfl

theorem ackIrqst_eq_or_xor (k v : Byte) : ackIrqst k v = k ||| (v ^^^ 0xff) := by
  rw [ackIrqst, ← BitVec.xor_allOnes]
  rfl

/-- Settles O32: five writes replace one field each, and IRQEN also acknowledges. -/
theorem pokeyImmediateWrites : Obligations.PokeyImmediateWrites := by
  intro addr v s
  rw [← ackIrqst_eq_or_xor]
  exact ⟨rfl, rfl, rfl, rfl, rfl, rfl⟩

/-! ### The IRQ level -/

theorem getLsbD_ackIrqst (k v : Byte) (b : Fin 8) :
    (ackIrqst k v).getLsbD b = (k.getLsbD b || !v.getLsbD b) := by
  simp [ackIrqst]

theorem ne_zero_iff_exists_getLsbD (x : Byte) : x ≠ 0 ↔ ∃ b : Fin 8, x.getLsbD b = true := by
  constructor
  · contrapose!
    exact fun h => BitVec.eq_of_getLsbD_eq fun i hi => by simpa using h ⟨i, hi⟩
  · rintro ⟨b, hb⟩ rfl
    simp at hb

/-- The line is up exactly when an enabled source requests, its IRQST bit low (R335, 60_exceptions R395). -/
theorem irqLine_iff (p : Pokey) :
    irqLine p = true ↔ ∃ b : Fin 8, p.irqen.getLsbD b = true ∧ p.irqst.getLsbD b = false := by
  rw [irqLine, bne_iff_ne, ne_zero_iff_exists_getLsbD]
  simp [and_comm]

/-- Settles O33: at an enabled source the acknowledged IRQST is the old one, so the line follows the old requests of the
sources that the written byte enables. -/
theorem irqenAcknowledges : Obligations.IrqenAcknowledges := by
  intro addr v s t h
  cases h
  refine ⟨getLsbD_ackIrqst s.pokey.irqst v, ?_⟩
  rw [irqLine_iff]
  refine exists_congr fun b => and_congr_right fun (henabled : v.getLsbD b = true) => ?_
  have hkept : (ackIrqst s.pokey.irqst v).getLsbD b = s.pokey.irqst.getLsbD b := by
    rw [getLsbD_ackIrqst, henabled, Bool.not_true, Bool.or_false]
  exact Eq.congr_left hkept

/-! ### Requests -/

theorem requestIrq_eq (bit : Nat) (raised : Bool) (s : State) :
    requestIrq bit raised s = { s with
      pokey := { s.pokey with irqst := s.pokey.irqst &&& ~~~(1#8 <<< bit) }
      out := { s.out with irq := raised } } := by
  rw [← BitVec.twoPow_eq]
  rfl

/-- Settles O35: each of the sources has the bit of its row, and a request moves that bit alone. -/
theorem irqEventGated : Obligations.IrqEventGated := by
  intro s row hrow
  rw [← requestIrq_eq]
  fin_cases hrow <;> rfl

/-! ### The keyboard -/

theorem keyMap_a : keyMap .a false false = some (0x3f, false, false) := rfl

theorem keyMap_leftBracket (shift ctl : Bool) : keyMap .leftBracket shift ctl = some (0x20, true, ctl) := rfl

theorem keyPress_of_unmapped {key : HostKey} {shift ctl : Bool} (h : keyMap key shift ctl = none) (pressed : Bool)
    (s : State) : keyPress key pressed shift ctl s = s := by
  rw [keyPress, h]

theorem keyPress_of_mapped {key : HostKey} {shift ctl sh ct : Bool} {code : BitVec 6}
    (h : keyMap key shift ctl = some (code, sh, ct)) (pressed : Bool) (s : State) :
    keyPress key pressed shift ctl s = if pressed then keyDown code sh ct s else keyUp s := by
  rw [keyPress, h]

/-- The code fills the bits below shift and control, so appending it adds it (R332). -/
theorem kbcodeOf_toNat (code : BitVec 6) (shift ctl : Bool) : (kbcodeOf code shift ctl).toNat =
    code.toNat + (if shift then 64 else 0) + if ctl then 128 else 0 := by
  have hmodifiers : (BitVec.ofBool ctl ++ BitVec.ofBool shift).toNat <<< 6 =
      (if shift then 64 else 0) + if ctl then 128 else 0 := by cases shift <;> cases ctl <;> rfl
  rw [kbcodeOf, BitVec.toNat_append, ← Nat.shiftLeft_add_eq_or_of_lt code.isLt, hmodifiers, Nat.add_comm,
    Nat.add_assoc]

theorem kbcodeOf_eq_ofNat (code : BitVec 6) (shift ctl : Bool) : kbcodeOf code shift ctl =
    BitVec.ofNat 8 (code.toNat + (if shift then 64 else 0) + if ctl then 128 else 0) := by
  rw [← kbcodeOf_toNat, BitVec.ofNat_toNat, BitVec.setWidth_eq]

theorem skstatPress_shifted (k : Byte) : skstatPress k true = k &&& 0xf3 :=
  BitVec.and_assoc k _ _

theorem skstatPress_unshifted (k : Byte) : skstatPress k false = (k &&& 0xfb) ||| 0x08 := rfl

theorem skstatPress_eq (k : Byte) (shift : Bool) :
    skstatPress k shift = (k &&& 0xf3) ||| if shift then 0 else 0x08 := by
  cases shift
  · revert k; decide
  · exact (skstatPress_shifted k).trans BitVec.or_zero.symm

theorem skstatRelease_eq (k : Byte) : skstatRelease k = k ||| 0x0c := BitVec.or_assoc k _ _

theorem keyDown_eq (code : BitVec 6) (shift ctl : Bool) (s : State) :
    keyDown code shift ctl s = { s with
      pokey := { s.pokey with
        kbcode := kbcodeOf code shift ctl
        skstat := skstatPress s.pokey.skstat shift
        irqst := s.pokey.irqst &&& 0xbf }
      out := { s.out with irq := s.pokey.irqen.getLsbD 6 } } := rfl

theorem keyUp_eq (s : State) :
    keyUp s = { s with pokey := { s.pokey with skstat := s.pokey.skstat ||| 0x0c } } := by
  rw [← skstatRelease_eq]
  rfl

/-- Settles O34: a mapped key is `keyDown` or `keyUp` of its entry, whatever the entry; the keys A and `[` are the
entries that the map fixes. -/
theorem keyPressResults : Obligations.KeyPressResults := by
  refine ⟨fun s key shift ctl => ⟨?unmapped, ?mapped⟩, keyMap_a, keyMap_leftBracket,
    fun s shift ctl => ⟨?a, ?aUp, ?bracket⟩⟩
  case unmapped => exact fun h pressed => keyPress_of_unmapped h pressed s
  case mapped =>
    intro code sh ct h
    rw [keyPress_of_mapped h, keyPress_of_mapped h, ← kbcodeOf_eq_ofNat, ← skstatPress_eq]
    exact ⟨keyDown_eq code sh ct s, keyUp_eq s⟩
  case a => exact (keyPress_of_mapped keyMap_a true s).trans (keyDown_eq ..)
  case aUp => exact (keyPress_of_mapped keyMap_a false s).trans (keyUp_eq s)
  case bracket =>
    have hcode : kbcodeOf 0x20 true ctl = if ctl then 0xe0 else 0x60 := by cases ctl <;> rfl
    rw [keyPress_of_mapped (keyMap_leftBracket shift ctl), ← hcode, ← skstatPress_shifted]
    exact keyDown_eq 0x20 true ctl s

end Sys2Proof.Machine
end

section
/-! PROOFS. POKEY's synthesis (45_pokey_synthesis): the output rule, the level, the drain, the entries that are due,
what a cycle does to each channel, and the period of a divider. -/

namespace Sys2Proof.Machine

/-! ### The output rule -/

/-- A closed gate keeps the output (R349). -/
theorem eventOut_of_closed {p : PolyBits} {audc : Byte} (h : (audc.getLsbD 7 || p.p5) = false) (audctl : Byte)
    (out : Bool) : eventOut p audctl audc out = out := by
  rw [eventOut, ← Bool.not_or, h]
  rfl

/-- An open gate lets the event choose the output (R349). -/
theorem eventOut_of_open {p : PolyBits} {audc : Byte} (h : (audc.getLsbD 7 || p.p5) = true) (audctl : Byte)
    (out : Bool) : eventOut p audctl audc out =
      if audc.getLsbD 5 then !out else if audc.getLsbD 6 then p.p4 else if audctl.getLsbD 7 then p.p9 else p.p17 := by
  rw [eventOut, ← Bool.not_or, h]
  rfl

/-- Settles O59: the closed gate keeps the output, and each branch behind the open gate is one of the cases. -/
theorem channelEventRule : Obligations.ChannelEventRule := by
  intro p audctl audc out
  refine ⟨fun h7 h5 => eventOut_of_closed (by rw [h7, h5]; rfl) audctl out, fun hgate => ?_⟩
  rw [eventOut_of_open ((Bool.or_eq_true _ _).mpr hgate)]
  exact ⟨fun htone => if_pos htone, fun htone hpoly4 => by rw [htone, hpoly4]; rfl,
    fun htone hpoly4 => by rw [htone, hpoly4]; rfl⟩

/-! ### The level -/

theorem contrib_of_audible {y : Synth} {k : Fin 4} (h : (y.audc[k].getLsbD 4 || effOut y k) = true) :
    contrib y k = y.audc[k].toNat % 16 := by
  rw [contrib, if_pos h, BitVec.extractLsb'_toNat, Nat.shiftRight_zero]

theorem contrib_of_silent {y : Synth} {k : Fin 4} (h : (y.audc[k].getLsbD 4 || effOut y k) = false) :
    contrib y k = 0 := by
  rw [contrib, h]
  rfl

/-- A volume has four bits, so a channel contributes 15 at most (R353). -/
theorem contrib_le (y : Synth) (k : Fin 4) : contrib y k ≤ 15 := by
  cases h : y.audc[k].getLsbD 4 || effOut y k
  · rw [contrib_of_silent h]; omega
  · rw [contrib_of_audible h]; omega

/-- A disabled latch reads as 0 in the XOR (R351). -/
theorem ite_xor_eq (enabled out latch : Bool) :
    (if enabled then out ^^ latch else out) = (out ^^ (enabled && latch)) := by
  cases enabled
  · exact (Bool.xor_false out).symm
  · rfl

/-- Settles O60: four contributions of at most 15 each, and the branches of `contrib` and `effOut`. -/
theorem levelSumsVolumes : Obligations.LevelSumsVolumes := by
  intro y
  refine ⟨rfl, ?bound, fun k hvolumeOnly => ?volumeOnly, fun k _ hout => ?on, fun k hvolumeOnly hout => ?off,
    ite_xor_eq .., ite_xor_eq .., rfl, rfl⟩
  case bound =>
    have h0 := contrib_le y 0
    have h1 := contrib_le y 1
    have h2 := contrib_le y 2
    have h3 := contrib_le y 3
    unfold level
    omega
  case volumeOnly => exact contrib_of_audible (by rw [hvolumeOnly, Bool.true_or])
  case on => exact contrib_of_audible (by rw [hout, Bool.or_true])
  case off => exact contrib_of_silent (by rw [hvolumeOnly, hout]; rfl)

/-! ### The drain -/

/-- Settles O57: an entry's cycle depends on its timestamp and the next cycle, which a drain leaves alone. -/
theorem drainTakesWholeQueue : Obligations.DrainTakesWholeQueue := by
  refine ⟨fun _ => rfl, fun s q r => ?_⟩
  simp only [audioDrain, List.map_append, ← List.append_assoc]
  rfl

/-! ### The entries that are due -/

theorem lastWrite_nil (reg : Fin 9) (old : Byte) : lastWrite [] reg old = old := rfl

/-- A later entry for the register wins over an earlier one (R340). -/
theorem lastWrite_cons (w : TimedWrite) (ws : List TimedWrite) (reg : Fin 9) (old : Byte) :
    lastWrite (w :: ws) reg old = lastWrite ws reg (if w.reg = reg then w.value else old) := by
  unfold lastWrite
  by_cases h : w.reg = reg
  · simp [h, List.getLast?_cons, Option.getD_map]
  · simp [h]

/-- The synthesis registers after the entries `ws`, each of them by its last entry (R340). -/
def writtenBy (ws : List TimedWrite) (y : Synth) : Synth :=
  { y with
    audf := #v[lastWrite ws 0 y.audf[0], lastWrite ws 2 y.audf[1], lastWrite ws 4 y.audf[2], lastWrite ws 6 y.audf[3]]
    audc := #v[lastWrite ws 1 y.audc[0], lastWrite ws 3 y.audc[1], lastWrite ws 5 y.audc[2], lastWrite ws 7 y.audc[3]]
    audctl := lastWrite ws 8 y.audctl }

theorem vector4_eta {α : Type} (v : Vector α 4) : #v[v[0], v[1], v[2], v[3]] = v := by
  ext i hi
  interval_cases i <;> rfl

theorem writtenBy_nil (y : Synth) : writtenBy [] y = y := by
  simp only [writtenBy, lastWrite_nil, vector4_eta]

theorem writtenBy_cons (w : TimedWrite) (ws : List TimedWrite) (y : Synth) :
    writtenBy (w :: ws) y = writtenBy ws (applyWrite y w) := by
  obtain ⟨due, reg, v⟩ := w
  simp only [writtenBy, lastWrite_cons]
  fin_cases reg <;> simp [applyWrite]

theorem foldl_applyWrite_eq_writtenBy (ws : List TimedWrite) (y : Synth) : ws.foldl applyWrite y = writtenBy ws y := by
  induction ws generalizing y with
  | nil => exact (writtenBy_nil y).symm
  | cons w ws ih => rw [List.foldl_cons, ih, writtenBy_cons]

theorem applyDue_eq_dueApplied (y : Synth) : applyDue y = dueApplied y := by
  rw [applyDue, foldl_applyWrite_eq_writtenBy, dueApplied]
  simp only [writtenBy, ne_eq, decide_not]

/-! ### The channels -/

section
variable (y : Synth)

theorem countDown_clocked (k : Fin 4) :
    countDown (clocked y k) (reloadValue y k) y.cnt[k] = (countAfter y k, hasEvent y k) :=
  countDown_eq ..

theorem clocked_lowChannel (pair : Fin 2) :
    clocked y (lowChannel pair) = (!linked y.audctl pair && clockLow y.audctl pair y.cycle) := by
  fin_cases pair <;> rfl

/-- The base clock also clocks a fast pair, whose own clock never stops (R344, R346). -/
theorem clocked_highChannel (pair : Fin 2) : clocked y (highChannel pair) =
    if linked y.audctl pair then clockLow y.audctl pair y.cycle else basePulse y.audctl y.cycle := by
  have hclocked : clocked y (highChannel pair) =
      (linked y.audctl pair && fastLow y.audctl pair || basePulse y.audctl y.cycle) := by fin_cases pair <;> rfl
  rw [hclocked, clockLow]
  cases linked y.audctl pair <;> rfl

theorem reloadValue_lowChannel (pair : Fin 2) : reloadValue y (lowChannel pair) =
    y.audf[lowChannel pair].toNat + if fastLow y.audctl pair then 3 else 0 := by
  fin_cases pair <;> rfl

theorem reloadValue_highChannel (pair : Fin 2) : reloadValue y (highChannel pair) =
    if linked y.audctl pair then pairDivisor y.audf pair + if fastLow y.audctl pair then 6 else 0
    else y.audf[highChannel pair].toNat := by
  fin_cases pair <;> rfl

/-- The low channel of a pair is one divider, which linking stops (R345, R346). -/
theorem stepLow_eq (pair : Fin 2) :
    stepLow y pair = (countAfter y (lowChannel pair), hasEvent y (lowChannel pair)) := by
  rw [← countDown_clocked, clocked_lowChannel, reloadValue_lowChannel, stepLow]
  cases linked y.audctl pair <;> rfl

/-- The high channel of a pair is one divider, which linking gives the pair's clock and divisor (R345, R346). -/
theorem stepHigh_eq (pair : Fin 2) :
    stepHigh y pair = (countAfter y (highChannel pair), hasEvent y (highChannel pair)) := by
  rw [← countDown_clocked, clocked_highChannel, reloadValue_highChannel, stepHigh]
  cases linked y.audctl pair <;> rfl

end

theorem nextCounts_eq (y : Synth) :
    nextCounts y = #v[countAfter y 0, countAfter y 1, countAfter y 2, countAfter y 3] := by
  simp only [nextCounts, stepLow_eq, stepHigh_eq]
  rfl

theorem events_eq (y : Synth) : events y = #v[hasEvent y 0, hasEvent y 1, hasEvent y 2, hasEvent y 3] := by
  simp only [events, stepLow_eq, stepHigh_eq]
  rfl

theorem getElem_events (y : Synth) (k : Fin 4) : (events y)[k] = hasEvent y k := by
  rw [events_eq]
  fin_cases k <;> rfl

/-- A channel's output moves on its event while the gate is open (R348, R349). -/
theorem nextOut_eq_outAfter (y : Synth) (k : Fin 4) : nextOut (polyBits y.cycle) y k = outAfter y k := by
  rw [nextOut, getElem_events, outAfter]
  cases hevent : hasEvent y k
  · rfl
  cases hgate : y.audc[k].getLsbD 7 || (polyBits y.cycle).p5
  · exact (eventOut_of_closed hgate ..).trans (if_neg (ne_true_of_eq_false hgate)).symm
  · exact (eventOut_of_open hgate ..).trans (if_pos hgate).symm

/-! ### The cycle -/

/-- The synthesis state with the channels and the latches after a cycle, in the words of the statements (R352). -/
def channelsStepped (y : Synth) : Synth :=
  { y with
    cnt := #v[countAfter y 0, countAfter y 1, countAfter y 2, countAfter y 3]
    outFF := #v[outAfter y 0, outAfter y 1, outAfter y 2, outAfter y 3]
    hp := #v[if hasEvent y 2 then outAfter y 0 else y.hp[0], if hasEvent y 3 then outAfter y 1 else y.hp[1]] }

theorem stepOutputs_eq_channelsStepped (y : Synth) : stepOutputs (polyBits y.cycle) y = channelsStepped y := by
  simp only [stepOutputs, nextCounts_eq, nextOut_eq_outAfter, events_eq]
  rfl

/-- Applying the entries leaves the cycle, and so the polynomial bits, as they are (R348, R352). -/
theorem synthStep_eq (y : Synth) : synthStep (polyBits y.cycle) y =
    let z := channelsStepped (dueApplied y)
    { z with history := volumeCurve (level z) :: y.history, cycle := y.cycle + 1 } := by
  have hstepped : stepOutputs (polyBits y.cycle) (dueApplied y) = channelsStepped (dueApplied y) :=
    stepOutputs_eq_channelsStepped (dueApplied y)
  rw [synthStep, applyDue_eq_dueApplied, hstepped]
  rfl

theorem synthCycle_eq (s : State) : synthCycle s =
    let z := channelsStepped (dueApplied s.synth)
    let history := volumeCurve (level z) :: s.synth.history
    { s with
      synth := { z with history := history, cycle := s.synth.cycle + 1 }
      out := { s.out with
        samples := List.replicate (samplesAt Config.hostSampleRate.value s.synth.cycle)
          (firSum Config.firFilter history) } } := by
  rw [synthCycle, synthStep_eq]
  rfl

/-! ### The period of a divider -/

/-- `k` clock pulses of a divider from its reload value on, no more than the value itself (R345). -/
theorem repeat_countDown {n k : Nat} (h : k ≤ n) : Nat.repeat (fun c => (countDown true n c).1) k n = n - k := by
  induction k with
  | zero => rfl
  | succ k ih =>
    rw [Nat.repeat, ih (by omega), countDown_eq]
    exact (if_neg (by omega)).trans (Nat.sub_sub n k 1)

/-- Settles O58: a step is the cycle's equation after its input is taken, and the divider's count gives its period. -/
theorem synthesisCycle : Obligations.SynthesisCycle := by
  refine ⟨fun s rest hinputs => ?cycle, fun n => ⟨fun k hk => repeat_countDown hk, fun k hk => ?noEvent, ?reload,
    fun _ => rfl⟩⟩
  case cycle =>
    refine ⟨_, _, ?_, samplesAt_iff Config.hostSampleRate.positive s.synth.cycle⟩
    rw [step_of_inputs_cons hinputs, ← firSum_eq]
    exact congrArg Host.Outcome.next (synthCycle_eq (beginStep rest s))
  case noEvent =>
    rw [repeat_countDown hk.le, countDown_eq]
    exact decide_eq_false (by omega)
  case reload =>
    rw [repeat_countDown le_rfl, Nat.sub_self]
    rfl

end Sys2Proof.Machine
end

section
/-! PROOFS. The PIA and the Multiplexers (46_pia_and_inputs): the port registers in the words of the statements, what a
PORTB write does to the banking, and the Multiplexer lines as the OR of their sources. -/

namespace Sys2Proof.Machine

/-! ### Writes -/

/-- PORTA is one register with two storages: PACTL bit 2 selects which of them takes the byte (R370). -/
theorem exec_wPorta (addr : Word) (v : Byte) (s : State) :
    exec (.wPorta addr v) s = .next (s.setPia { s.pia with
      portaOut := if s.pia.pactl.getLsbD 2 then v else s.pia.portaOut
      portaDdr := if s.pia.pactl.getLsbD 2 then s.pia.portaDdr else v }) := by
  have hexec : exec (.wPorta addr v) s = execWPorta addr v s := rfl
  rw [hexec, execWPorta, selectsLatch]
  split <;> rfl

/-- PORTB likewise, by PBCTL bit 2 (R371). -/
theorem exec_wPortb (addr : Word) (v : Byte) (s : State) :
    exec (.wPortb addr v) s = .next (s.setPia { s.pia with
      portbOut := if s.pia.pbctl.getLsbD 2 then v else s.pia.portbOut
      portbDdr := if s.pia.pbctl.getLsbD 2 then s.pia.portbDdr else v }) := by
  have hexec : exec (.wPortb addr v) s = execWPortb addr v s := rfl
  rw [hexec, execWPortb, selectsLatch]
  split <;> rfl

/-- Settles O36: the two ports by their equations, the two control registers by their meanings. -/
theorem piaWriteResults : Obligations.PiaWriteResults :=
  fun addr v s => ⟨exec_wPorta addr v s, exec_wPortb addr v s, rfl, rfl⟩

/-! ### Reads, pin by pin -/

/-- The joystick lines are active low (R381). -/
theorem getLsbD_portaIn (s : State) (b : Fin 8) : (portaIn s).getLsbD b = !(muxOut s.joyMux).getLsbD b := by
  rw [portaIn, BitVec.getLsbD_not, decide_eq_true b.isLt, Bool.true_and]

/-- An output pin of PORTA reads its latch, an input pin the joystick line (R374). -/
theorem getLsbD_portaRead (s : State) (b : Fin 8) :
    (portaRead s).getLsbD b =
      if s.pia.pactl.getLsbD 2 then
        (if s.pia.portaDdr.getLsbD b then s.pia.portaOut.getLsbD b else !(muxOut s.joyMux).getLsbD b)
      else s.pia.portaDdr.getLsbD b := by
  rw [portaRead, selectsLatch, apply_ite (BitVec.getLsbD · b)]
  refine if_congr Iff.rfl ?_ rfl
  rw [BitVec.getLsbD_or, BitVec.getLsbD_and, BitVec.getLsbD_and, BitVec.getLsbD_not, getLsbD_portaIn]
  cases s.pia.portaDdr.getLsbD b
  case false => simp
  case true => simp

/-- PORTB reads the effective value, whose input pins are 1, or the DDR (R375). -/
theorem getLsbD_portbRead (p : Pia) (b : Fin 8) :
    (portbRead p).getLsbD b =
      if p.pbctl.getLsbD 2 then (!p.portbDdr.getLsbD b || p.portbOut.getLsbD b) else p.portbDdr.getLsbD b := by
  rw [portbRead, selectsLatch, apply_ite (BitVec.getLsbD · b), getLsbD_portbEff]

/-- Settles O37: the ports drive the bytes whose pins the lemmas above give, the control registers their own bits. -/
theorem piaReadResults : Obligations.PiaReadResults := by
  intro addr s
  simp only [← driveData_eq_readResult]
  exact ⟨⟨portaRead s, rfl, getLsbD_portaRead s⟩, ⟨portbRead s.pia, rfl, getLsbD_portbRead s.pia⟩, rfl, rfl⟩

/-! ### Port B and the banking -/

/-- The effective port B with its input pins set by an exclusive or (10_state R51). -/
theorem portbEff_eq_xor (p : Pia) : portbEff p = (p.portbOut &&& p.portbDdr) ||| (p.portbDdr ^^^ 0xff) :=
  congrArg _ BitVec.xor_allOnes.symm

/-- Settles O45: of the PIA the bank resolution sees the effective port B alone, which the byte written changes through
the latch or through the DDR. -/
theorem portbGovernsNextAccess : Obligations.PortbGovernsNextAccess := by
  intro addr v s
  refine ⟨⟨_, rfl, rfl⟩, _, exec_wPortb addr v s, congrArg (fun portb => { s.bankEnv with portb }) ?_⟩
  rw [portbEff_eq_xor, State.setPia_pia]
  cases s.pia.pbctl.getLsbD 2
  case false => rfl
  case true => rfl

/-! ### Reading a canonical list -/

/-- In the canonical form from `lo` on every listed address is at least `lo`. -/
theorem le_of_mem_of_wfFrom {u : Nat → Byte} {m : List Host.Cell} {lo : Nat} {c : Host.Cell}
    (h : wfFrom u lo m = true) (hc : c ∈ m) : lo ≤ c.1 := by
  induction m generalizing lo with
  | nil => cases hc
  | cons d m ih =>
    simp only [wfFrom, Bool.and_eq_true, decide_eq_true_eq] at h
    obtain ⟨⟨hlo, -⟩, htail⟩ := h
    cases hc with
    | head => exact hlo
    | tail _ hc => exact hlo.trans (Nat.le_of_succ_le (ih htail hc))

/-- In the canonical form every listed cell is read: no cell before it has its address. -/
theorem read_of_mem_of_wfFrom {u : Nat → Byte} {m : List Host.Cell} {lo : Nat} {c : Host.Cell}
    (h : wfFrom u lo m = true) (hc : c ∈ m) : Memory.read u m c.1 = c.2 := by
  induction m generalizing lo with
  | nil => cases hc
  | cons d m ih =>
    simp only [wfFrom, Bool.and_eq_true] at h
    obtain ⟨-, htail⟩ := h
    cases hc with
    | head => exact if_pos rfl
    | tail _ hc =>
      have hne : d.1 ≠ c.1 := Nat.ne_of_lt (le_of_mem_of_wfFrom htail hc)
      exact (if_neg hne).trans (ih htail hc)

/-- A read gives what an unlisted address holds, or the byte of a listed cell. -/
theorem read_eq_or_mem (u : Nat → Byte) (m : List Host.Cell) (a : Nat) :
    Memory.read u m a = u a ∨ (a, Memory.read u m a) ∈ m := by
  induction m with
  | nil => exact .inl rfl
  | cons d m ih =>
    obtain ⟨k, w⟩ := d
    rw [Memory.read]
    split
    case isTrue hk => exact .inr (hk ▸ List.mem_cons_self)
    case isFalse => exact ih.imp_right (List.mem_cons_of_mem _)

/-! ### The Multiplexers -/

/-- A bit of the output is 1 exactly when it is 1 in a listed mask (R380). -/
theorem getLsbD_muxOut (m : List Host.Cell) (b : Nat) :
    (muxOut m).getLsbD b = true ↔ ∃ c ∈ m, c.2.getLsbD b = true := by
  induction m with
  | nil => simp [muxOut]
  | cons d m ih =>
    have hcons : muxOut (d :: m) = d.2 ||| muxOut m := rfl
    rw [hcons, BitVec.getLsbD_or, Bool.or_eq_true, ih, List.exists_mem_cons_iff]

/-- On canonical storage a line is pressed exactly when some source presses it (R380, R381). -/
theorem getLsbD_muxOut_iff_source {m : List Host.Cell} (h : Memory.wf unsetMask m = true) (b : Nat) :
    (muxOut m).getLsbD b = true ↔ ∃ source, (Memory.read unsetMask m source).getLsbD b = true := by
  rw [getLsbD_muxOut]
  constructor
  · rintro ⟨c, hc, hbit⟩
    have hread : Memory.read unsetMask m c.1 = c.2 := read_of_mem_of_wfFrom h hc
    exact ⟨c.1, hread ▸ hbit⟩
  · rintro ⟨source, hbit⟩
    obtain hunset | hmem := read_eq_or_mem unsetMask m source
    · rw [hunset, unsetMask, BitVec.ofNat_eq_ofNat, BitVec.getLsbD_zero] at hbit
      cases hbit
    · exact ⟨_, hmem, hbit⟩

/-- Settles O39: the output by the listed masks, and setting a source by the laws of a write. -/
theorem multiplexerOrsSources : Obligations.MultiplexerOrsSources :=
  ⟨fun _ b h => getLsbD_muxOut_iff_source h b, fun mux source _ mask s =>
    ⟨memory_read_write .., memory_read_write .., muxSet_muxOnly mux source mask s, rfl, rfl⟩⟩

end Sys2Proof.Machine
end

section
/-! PROOFS. Power-on and machine reset (70_reset_and_hazards), and that no step faults or refuses (60_exceptions R390): a
refusal is of a configuration, before the first step (R391). -/

namespace Sys2Proof.Machine

/-! ### Every step completes -/

/-- Every bus write answers a next state: its register write does, or storage takes the byte. -/
theorem busWrite_completes (addr : Word) (v : Byte) (s : State) : ∃ t, busWrite addr v s = .next t := by
  unfold busWrite
  split
  · exact exec_completes _ s
  · exact ⟨_, rfl⟩

/-- Every input answers a next state: ticks and bus accesses by their own lemmas, host events outright. -/
theorem runInput_completes (i : Input) (s : State) : Completes (runInput i s) := by
  cases i with
  | tick b => exact tick_completes b s
  | write addr v => exact busWrite_completes addr v s
  | read addr => exact busRead_completes addr s
  | keyPress | irqEvent | collide | setTrigger | muxSet | audioDrain | synthCycle | machineReset => exact ⟨_, rfl⟩

/-- No step faults or refuses (R390). -/
theorem step_completes (s : State) : Completes (step s) := by
  cases h : s.inputs with
  | nil => rw [step_of_inputs_nil h]; exact tick_completes _ _
  | cons i rest => rw [step_of_inputs_cons h]; exact runInput_completes i _

/-! ### The domain of each parameter (R391) -/

section
variable (h : Handed)

theorem not_configBreaks_ramSize : ¬ configBreaks h .ramSize ↔
    h.ramSize = 65536 ∨ h.ramSize = 131072 ∨ h.ramSize = 327680 := by
  constructor
  · intro hbreaks
    obtain ⟨z, hz⟩ : ∃ z : RamSize, h.ramSize = z.bytes := not_forall_not.mp hbreaks
    cases z with
    | k64 => exact .inl hz
    | k128 => exact .inr (.inl hz)
    | k320 => exact .inr (.inr hz)
  · rintro (hz | hz | hz) hbreaks
    · exact hbreaks .k64 hz
    · exact hbreaks .k128 hz
    · exact hbreaks .k320 hz

theorem not_configBreaks_osRom : ¬ configBreaks h .osRom ↔ h.osRom.length = 16384 := not_not

theorem not_configBreaks_basicRom : ¬ configBreaks h .basicRom ↔ ∀ b, h.basicRom = some b → b.length = 8192 := by
  simp only [configBreaks, not_exists, not_and, ne_eq, not_not]

theorem not_configBreaks_cartridge : ¬ configBreaks h .cartridge ↔ ∀ c, h.cartridge = some c → cartTotal c := by
  simp only [configBreaks, not_exists, not_and, not_not]

theorem not_configBreaks_dmaSchedule : ¬ configBreaks h .dmaSchedule ↔ ∀ k, Admitted (h.dmaSchedule k) := by
  simp only [configBreaks, not_exists, Bool.not_eq_false, admitted_iff_windowsOk]

theorem not_configBreaks_visibleCycle : ¬ configBreaks h .visibleCycle ↔ h.visibleCycle ≤ 113 := Nat.not_lt

/-- A curve that never falls from one level to the next never falls between any two. -/
theorem not_configBreaks_volumeCurve : ¬ configBreaks h .volumeCurve ↔
    h.volumeCurve 0 = 0 ∧ ∀ i j : Fin 61, i ≤ j → h.volumeCurve i ≤ h.volumeCurve j :=
  not_not.trans (and_congr_right fun _ => Fin.monotone_iff_le_succ.symm)

end

/-- What holds of every reason for a refusal, reason by reason. -/
theorem forall_configFault {p : ConfigFault → Prop} : (∀ r, p r) ↔
    p .ramSize ∧ p .osRom ∧ p .basicRom ∧ p .cartridge ∧ p .dmaSchedule ∧ p .visibleCycle ∧ p .volumeCurve := by
  constructor
  · exact fun h => ⟨h _, h _, h _, h _, h _, h _, h _⟩
  · rintro ⟨hram, hos, hbasic, hcart, hdma, hvisible, hcurve⟩ r
    cases r with
    | ramSize => exact hram
    | osRom => exact hos
    | basicRom => exact hbasic
    | cartridge => exact hcart
    | dmaSchedule => exact hdma
    | visibleCycle => exact hvisible
    | volumeCurve => exact hcurve

/-- Any other answer at power-on is a refusal that names a parameter outside its domain. -/
theorem refused_of_start {h : Handed} {o : Res} (hstart : Start h o) (hne : o ≠ .next State.reset) :
    ∃ r, configBreaks h r ∧ o = .refused (.configuration r) :=
  hstart.resolve_right fun ⟨_, ho⟩ => hne ho

/-- Settles O7: a step by its input; power-on by the parameters that a configuration may break. -/
theorem everyStepCompletes : Obligations.EveryStepCompletes := by
  refine ⟨step_completes, fun h => ⟨start_exists h, ?domain, ?refusal⟩, ?inUse⟩
  case domain =>
    rw [start_reset_iff, forall_configFault, not_configBreaks_ramSize, not_configBreaks_osRom,
      not_configBreaks_basicRom, not_configBreaks_cartridge, not_configBreaks_dmaSchedule,
      not_configBreaks_visibleCycle, not_configBreaks_volumeCurve]
  case refusal =>
    intro o hstart hne
    obtain ⟨r, hbreaks, ho⟩ := refused_of_start hstart hne
    exact ⟨fun hreset => start_reset_iff.mp hreset r hbreaks, r, hbreaks, ho⟩
  case inUse =>
    intro o hstart
    by_contra hne
    obtain ⟨r, hbreaks, -⟩ := refused_of_start hstart hne
    exact configInUse_ok r hbreaks

/-! ### Power-on and machine reset -/

/-- A machine reset leaves ANTIC at zero but for the total (R420, R421). -/
theorem resetAntic_eq_zeroAntic (a : Antic) : resetAntic a = zeroAntic a.totalCycles := rfl

/-- Settles O10: the stored values as they stand in the power-on state, what is read of them by their formulas. -/
theorem powerOnValues : Obligations.PowerOnValues := by
  refine ⟨resetAntic_eq_zeroAntic Antic.zero, rfl, rfl, rfl, fun _ => ⟨rfl, rfl⟩, fun _ => rfl, rfl,
    ?portb, ?porta, ?nmist, ?irq⟩
  case portb => decide
  case porta => decide
  case nmist => decide
  case irq => decide

/-- The whole state after a machine reset (R420). -/
theorem machineReset_eq (s : State) : machineReset s = { s with
    antic := zeroAntic s.antic.totalCycles
    cart := if Config.cartPresent then Config.cartReset s.cart else s.cart } := by
  rw [machineReset, resetAntic_eq_zeroAntic]
  rfl

/-- Settles O55: the step runs `machineReset` on the state without its input. -/
theorem machineResetResult : Obligations.MachineResetResult := by
  intro s rest hinputs
  have hrun : step s = .next (machineReset (beginStep rest s)) := step_of_inputs_cons hinputs
  rw [hrun, machineReset_eq]
  rfl

end Sys2Proof.Machine
end
